-- ==== Sys2Proof/Word.lean ====
section
/-! DEFINITION. The two data widths of the 6510. -/

namespace Sys2Proof

/-- A memory cell, A, X, Y, S: 8 bits (00_scope.md R5). -/
abbrev Byte := BitVec 8

/-- An address, PC: 16 bits (00_scope.md R5). -/
abbrev Word := BitVec 16

end Sys2Proof
end

