-- ==== Sys2Proof/Syntax.lean ====
section
/-! DEFINITION. The syntax: the 56 mnemonics, the 14 formats of 30_encoding.md R81, and `Instr`, one constructor per row of opcode_table.json. -/

namespace Sys2Proof

/-- The 56 mnemonics of the source (30_encoding.md R80, R102). -/
inductive Mnemonic where
  | adc | and | asl | bcc | bcs | beq | bit | bmi
  | bne | bpl | brk | bvc | bvs | clc | cld | cli
  | clv | cmp | cpx | cpy | dec | dex | dey | eor
  | inc | inx | iny | jmp | jsr | lda | ldx | ldy
  | lsr | nop | ora | pha | php | pla | plp | rol
  | ror | rti | rts | sbc | sec | sed | sei | sta
  | stx | sty | tax | tay | tsx | txa | txs | tya
  deriving DecidableEq, Repr

/-- The modes that reach memory through an effective address, with their operand bytes (R87 to R94).
`b` is the one operand byte; `w` is the two operand bytes as one 16-bit value (R83 c). -/
inductive MemMode where
  | zp (b : Byte)    -- ZeroPage, R87
  | zpx (b : Byte)   -- ZeroPage,X, R88
  | zpy (b : Byte)   -- ZeroPage,Y, R89
  | abs (w : Word)   -- Absolute, R90
  | abx (w : Word)   -- Absolute,X, R91
  | aby (w : Word)   -- Absolute,Y, R92
  | izx (b : Byte)   -- (Indirect,X), R93
  | izy (b : Byte)   -- (Indirect),Y, R94
  deriving DecidableEq, Repr

/-- The formats of R81. `mem` gathers the eight memory modes. A relative displacement is the signed
number of R83 (d), -128 to 127 (`Instr.wf` checks the range). -/
inductive Mode where
  | imp              -- Implied, R84
  | stk              -- Implied/Stack, R84
  | acc              -- Accumulator, R85
  | imm (b : Byte)   -- Immediate, R86
  | mem (m : MemMode)
  | rel (d : Int)    -- Relative, R96
  | ind (w : Word)   -- (Abs.Indirect), R97
  deriving DecidableEq, Repr

/-- The instructions, one constructor per row of opcode_table.json (179 rows): the mnemonic, then the short
mode name of R81 where the mnemonic has several. The 28 rows of the source's "Illegal Version(s)" tables
(R103, R104) end in their opcode, because several of them share one mnemonic and mode. -/
inductive Instr where
  | adcImm (b : Byte)       -- $69  ADC #$FF
  | adcZp (b : Byte)        -- $65  ADC $FF
  | adcZpx (b : Byte)       -- $75  ADC $FF,X
  | adcAbs (w : Word)       -- $6D  ADC $FFFF
  | adcAbx (w : Word)       -- $7D  ADC $FFFF,X
  | adcAby (w : Word)       -- $79  ADC $FFFF,Y
  | adcIzx (b : Byte)       -- $61  ADC ($FF,X)
  | adcIzy (b : Byte)       -- $71  ADC ($FF),Y
  | andImm (b : Byte)       -- $29  AND #$FF
  | andZp (b : Byte)        -- $25  AND $FF
  | andZpx (b : Byte)       -- $35  AND $FF,X
  | andAbs (w : Word)       -- $2D  AND $FFFF
  | andAbx (w : Word)       -- $3D  AND $FFFF,X
  | andAby (w : Word)       -- $39  AND $FFFF,Y
  | andIzx (b : Byte)       -- $21  AND ($FF,X)
  | andIzy (b : Byte)       -- $31  AND ($FF),Y
  | aslAcc                  -- $0A  ASL A
  | aslZp (b : Byte)        -- $06  ASL $FF
  | aslZpx (b : Byte)       -- $16  ASL $FF,X
  | aslAbs (w : Word)       -- $0E  ASL $FFFF
  | aslAbx (w : Word)       -- $1E  ASL $FFFF,X
  | bcc (d : Int)           -- $90  BCC $FFFF
  | bcs (d : Int)           -- $B0  BCS $FFFF
  | beq (d : Int)           -- $F0  BEQ $FFFF
  | bitZp (b : Byte)        -- $24  BIT $FF
  | bitAbs (w : Word)       -- $2C  BIT $FFFF
  | bmi (d : Int)           -- $30  BMI $FFFF
  | bne (d : Int)           -- $D0  BNE $FFFF
  | bpl (d : Int)           -- $10  BPL $FFFF
  | brk                     -- $00  BRK
  | bvc (d : Int)           -- $50  BVC $FFFF
  | bvs (d : Int)           -- $70  BVS $FFFF
  | clc                     -- $18  CLC
  | cld                     -- $D8  CLD
  | cli                     -- $58  CLI
  | clv                     -- $B8  CLV
  | cmpImm (b : Byte)       -- $C9  CMP #$FF
  | cmpZp (b : Byte)        -- $C5  CMP $FF
  | cmpZpx (b : Byte)       -- $D5  CMP $FF,X
  | cmpAbs (w : Word)       -- $CD  CMP $FFFF
  | cmpAbx (w : Word)       -- $DD  CMP $FFFF,X
  | cmpAby (w : Word)       -- $D9  CMP $FFFF,Y
  | cmpIzx (b : Byte)       -- $C1  CMP ($FF,X)
  | cmpIzy (b : Byte)       -- $D1  CMP ($FF),Y
  | cpxImm (b : Byte)       -- $E0  CPX #$FF
  | cpxZp (b : Byte)        -- $E4  CPX $FF
  | cpxAbs (w : Word)       -- $EC  CPX $FFFF
  | cpyImm (b : Byte)       -- $C0  CPY #$FF
  | cpyZp (b : Byte)        -- $C4  CPY $FF
  | cpyAbs (w : Word)       -- $CC  CPY $FFFF
  | decZp (b : Byte)        -- $C6  DEC $FF
  | decZpx (b : Byte)       -- $D6  DEC $FF,X
  | decAbs (w : Word)       -- $CE  DEC $FFFF
  | decAbx (w : Word)       -- $DE  DEC $FFFF,X
  | dex                     -- $CA  DEX
  | dey                     -- $88  DEY
  | eorImm (b : Byte)       -- $49  EOR #$FF
  | eorZp (b : Byte)        -- $45  EOR $FF
  | eorZpx (b : Byte)       -- $55  EOR $FF,X
  | eorAbs (w : Word)       -- $4D  EOR $FFFF
  | eorAbx (w : Word)       -- $5D  EOR $FFFF,X
  | eorAby (w : Word)       -- $59  EOR $FFFF,Y
  | eorIzx (b : Byte)       -- $41  EOR ($FF,X)
  | eorIzy (b : Byte)       -- $51  EOR ($FF),Y
  | incZp (b : Byte)        -- $E6  INC $FF
  | incZpx (b : Byte)       -- $F6  INC $FF,X
  | incAbs (w : Word)       -- $EE  INC $FFFF
  | incAbx (w : Word)       -- $FE  INC $FFFF,X
  | inx                     -- $E8  INX
  | iny                     -- $C8  INY
  | jmpAbs (w : Word)       -- $4C  JMP $FFFF
  | jmpInd (w : Word)       -- $6C  JMP ($FFFF)
  | jsr (w : Word)          -- $20  JSR $FFFF
  | ldaImm (b : Byte)       -- $A9  LDA #$FF
  | ldaZp (b : Byte)        -- $A5  LDA $FF
  | ldaZpx (b : Byte)       -- $B5  LDA $FF,X
  | ldaAbs (w : Word)       -- $AD  LDA $FFFF
  | ldaAbx (w : Word)       -- $BD  LDA $FFFF,X
  | ldaAby (w : Word)       -- $B9  LDA $FFFF,Y
  | ldaIzx (b : Byte)       -- $A1  LDA ($FF,X)
  | ldaIzy (b : Byte)       -- $B1  LDA ($FF),Y
  | ldxImm (b : Byte)       -- $A2  LDX #$FF
  | ldxZp (b : Byte)        -- $A6  LDX $FF
  | ldxZpy (b : Byte)       -- $B6  LDX $FF,Y
  | ldxAbs (w : Word)       -- $AE  LDX $FFFF
  | ldxAby (w : Word)       -- $BE  LDX $FFFF,Y
  | ldyImm (b : Byte)       -- $A0  LDY #$FF
  | ldyZp (b : Byte)        -- $A4  LDY $FF
  | ldyZpx (b : Byte)       -- $B4  LDY $FF,X
  | ldyAbs (w : Word)       -- $AC  LDY $FFFF
  | ldyAbx (w : Word)       -- $BC  LDY $FFFF,X
  | lsrAcc                  -- $4A  LSR A
  | lsrZp (b : Byte)        -- $46  LSR $FF
  | lsrZpx (b : Byte)       -- $56  LSR $FF,X
  | lsrAbs (w : Word)       -- $4E  LSR $FFFF
  | lsrAbx (w : Word)       -- $5E  LSR $FFFF,X
  | nop                     -- $EA  NOP
  | nopImp1A                -- $1A  NOP  (illegal)
  | nopImp3A                -- $3A  NOP  (illegal)
  | nopImp5A                -- $5A  NOP  (illegal)
  | nopImp7A                -- $7A  NOP  (illegal)
  | nopImpDA                -- $DA  NOP  (illegal)
  | nopImpFA                -- $FA  NOP  (illegal)
  | nopImm80 (b : Byte)     -- $80  NOP #$FF  (illegal)
  | nopImm82 (b : Byte)     -- $82  NOP #$FF  (illegal)
  | nopImm89 (b : Byte)     -- $89  NOP #$FF  (illegal)
  | nopImmC2 (b : Byte)     -- $C2  NOP #$FF  (illegal)
  | nopImmE2 (b : Byte)     -- $E2  NOP #$FF  (illegal)
  | nopZp04 (b : Byte)      -- $04  NOP $FF  (illegal)
  | nopZp44 (b : Byte)      -- $44  NOP $FF  (illegal)
  | nopZp64 (b : Byte)      -- $64  NOP $FF  (illegal)
  | nopZpx14 (b : Byte)     -- $14  NOP $FF,X  (illegal)
  | nopZpx34 (b : Byte)     -- $34  NOP $FF,X  (illegal)
  | nopZpx54 (b : Byte)     -- $54  NOP $FF,X  (illegal)
  | nopZpx74 (b : Byte)     -- $74  NOP $FF,X  (illegal)
  | nopZpxD4 (b : Byte)     -- $D4  NOP $FF,X  (illegal)
  | nopZpxF4 (b : Byte)     -- $F4  NOP $FF,X  (illegal)
  | nopAbs0C (w : Word)     -- $0C  NOP $FFFF  (illegal)
  | nopAbx1C (w : Word)     -- $1C  NOP $FFFF,X  (illegal)
  | nopAbx3C (w : Word)     -- $3C  NOP $FFFF,X  (illegal)
  | nopAbx5C (w : Word)     -- $5C  NOP $FFFF,X  (illegal)
  | nopAbx7C (w : Word)     -- $7C  NOP $FFFF,X  (illegal)
  | nopAbxDC (w : Word)     -- $DC  NOP $FFFF,X  (illegal)
  | nopAbxFC (w : Word)     -- $FC  NOP $FFFF,X  (illegal)
  | oraImm (b : Byte)       -- $09  ORA #$FF
  | oraZp (b : Byte)        -- $05  ORA $FF
  | oraZpx (b : Byte)       -- $15  ORA $FF,X
  | oraAbs (w : Word)       -- $0D  ORA $FFFF
  | oraAbx (w : Word)       -- $1D  ORA $FFFF,X
  | oraAby (w : Word)       -- $19  ORA $FFFF,Y
  | oraIzx (b : Byte)       -- $01  ORA ($FF,X)
  | oraIzy (b : Byte)       -- $11  ORA ($FF),Y
  | pha                     -- $48  PHA
  | php                     -- $08  PHP
  | pla                     -- $68  PLA
  | plp                     -- $28  PLP
  | rolAcc                  -- $2A  ROL A
  | rolZp (b : Byte)        -- $26  ROL $FF
  | rolZpx (b : Byte)       -- $36  ROL $FF,X
  | rolAbs (w : Word)       -- $2E  ROL $FFFF
  | rolAbx (w : Word)       -- $3E  ROL $FFFF,X
  | rorAcc                  -- $6A  ROR A
  | rorZp (b : Byte)        -- $66  ROR $FF
  | rorZpx (b : Byte)       -- $76  ROR $FF,X
  | rorAbs (w : Word)       -- $6E  ROR $FFFF
  | rorAbx (w : Word)       -- $7E  ROR $FFFF,X
  | rti                     -- $40  RTI
  | rts                     -- $60  RTS
  | sbcImm (b : Byte)       -- $E9  SBC #$FF
  | sbcZp (b : Byte)        -- $E5  SBC $FF
  | sbcZpx (b : Byte)       -- $F5  SBC $FF,X
  | sbcAbs (w : Word)       -- $ED  SBC $FFFF
  | sbcAbx (w : Word)       -- $FD  SBC $FFFF,X
  | sbcAby (w : Word)       -- $F9  SBC $FFFF,Y
  | sbcIzx (b : Byte)       -- $E1  SBC ($FF,X)
  | sbcIzy (b : Byte)       -- $F1  SBC ($FF),Y
  | sbcImmEB (b : Byte)     -- $EB  SBC #$FF  (illegal)
  | sec                     -- $38  SEC
  | sed                     -- $F8  SED
  | sei                     -- $78  SEI
  | staZp (b : Byte)        -- $85  STA $FF
  | staZpx (b : Byte)       -- $95  STA $FF,X
  | staAbs (w : Word)       -- $8D  STA $FFFF
  | staAbx (w : Word)       -- $9D  STA $FFFF,X
  | staAby (w : Word)       -- $99  STA $FFFF,Y
  | staIzx (b : Byte)       -- $81  STA ($FF,X)
  | staIzy (b : Byte)       -- $91  STA ($FF),Y
  | stxZp (b : Byte)        -- $86  STX $FF
  | stxZpy (b : Byte)       -- $96  STX $FF,Y
  | stxAbs (w : Word)       -- $8E  STX $FFFF
  | styZp (b : Byte)        -- $84  STY $FF
  | styZpx (b : Byte)       -- $94  STY $FF,X
  | styAbs (w : Word)       -- $8C  STY $FFFF
  | tax                     -- $AA  TAX
  | tay                     -- $A8  TAY
  | tsx                     -- $BA  TSX
  | txa                     -- $8A  TXA
  | txs                     -- $9A  TXS
  | tya                     -- $98  TYA
  deriving DecidableEq, Repr

end Sys2Proof
end

