-- ==== Sys2Proof/Machine/Forms.lean ====
section
/-! DEFINITION. What each row of opcode_table.json says of its instruction besides its opcode: the mnemonic, the
format with its operand, whether the source lists it as illegal, and the length that follows from the format. -/

namespace Sys2Proof

/-- The row's mnemonic (30_encoding.md R102, R103, R104). -/
def Instr.mnemonic : Instr → Mnemonic
  | .adcImm _ => .adc
  | .adcZp _ => .adc
  | .adcZpx _ => .adc
  | .adcAbs _ => .adc
  | .adcAbx _ => .adc
  | .adcAby _ => .adc
  | .adcIzx _ => .adc
  | .adcIzy _ => .adc
  | .andImm _ => .and
  | .andZp _ => .and
  | .andZpx _ => .and
  | .andAbs _ => .and
  | .andAbx _ => .and
  | .andAby _ => .and
  | .andIzx _ => .and
  | .andIzy _ => .and
  | .aslAcc => .asl
  | .aslZp _ => .asl
  | .aslZpx _ => .asl
  | .aslAbs _ => .asl
  | .aslAbx _ => .asl
  | .bcc _ => .bcc
  | .bcs _ => .bcs
  | .beq _ => .beq
  | .bitZp _ => .bit
  | .bitAbs _ => .bit
  | .bmi _ => .bmi
  | .bne _ => .bne
  | .bpl _ => .bpl
  | .brk => .brk
  | .bvc _ => .bvc
  | .bvs _ => .bvs
  | .clc => .clc
  | .cld => .cld
  | .cli => .cli
  | .clv => .clv
  | .cmpImm _ => .cmp
  | .cmpZp _ => .cmp
  | .cmpZpx _ => .cmp
  | .cmpAbs _ => .cmp
  | .cmpAbx _ => .cmp
  | .cmpAby _ => .cmp
  | .cmpIzx _ => .cmp
  | .cmpIzy _ => .cmp
  | .cpxImm _ => .cpx
  | .cpxZp _ => .cpx
  | .cpxAbs _ => .cpx
  | .cpyImm _ => .cpy
  | .cpyZp _ => .cpy
  | .cpyAbs _ => .cpy
  | .decZp _ => .dec
  | .decZpx _ => .dec
  | .decAbs _ => .dec
  | .decAbx _ => .dec
  | .dex => .dex
  | .dey => .dey
  | .eorImm _ => .eor
  | .eorZp _ => .eor
  | .eorZpx _ => .eor
  | .eorAbs _ => .eor
  | .eorAbx _ => .eor
  | .eorAby _ => .eor
  | .eorIzx _ => .eor
  | .eorIzy _ => .eor
  | .incZp _ => .inc
  | .incZpx _ => .inc
  | .incAbs _ => .inc
  | .incAbx _ => .inc
  | .inx => .inx
  | .iny => .iny
  | .jmpAbs _ => .jmp
  | .jmpInd _ => .jmp
  | .jsr _ => .jsr
  | .ldaImm _ => .lda
  | .ldaZp _ => .lda
  | .ldaZpx _ => .lda
  | .ldaAbs _ => .lda
  | .ldaAbx _ => .lda
  | .ldaAby _ => .lda
  | .ldaIzx _ => .lda
  | .ldaIzy _ => .lda
  | .ldxImm _ => .ldx
  | .ldxZp _ => .ldx
  | .ldxZpy _ => .ldx
  | .ldxAbs _ => .ldx
  | .ldxAby _ => .ldx
  | .ldyImm _ => .ldy
  | .ldyZp _ => .ldy
  | .ldyZpx _ => .ldy
  | .ldyAbs _ => .ldy
  | .ldyAbx _ => .ldy
  | .lsrAcc => .lsr
  | .lsrZp _ => .lsr
  | .lsrZpx _ => .lsr
  | .lsrAbs _ => .lsr
  | .lsrAbx _ => .lsr
  | .nop => .nop
  | .nopImp1A => .nop
  | .nopImp3A => .nop
  | .nopImp5A => .nop
  | .nopImp7A => .nop
  | .nopImpDA => .nop
  | .nopImpFA => .nop
  | .nopImm80 _ => .nop
  | .nopImm82 _ => .nop
  | .nopImm89 _ => .nop
  | .nopImmC2 _ => .nop
  | .nopImmE2 _ => .nop
  | .nopZp04 _ => .nop
  | .nopZp44 _ => .nop
  | .nopZp64 _ => .nop
  | .nopZpx14 _ => .nop
  | .nopZpx34 _ => .nop
  | .nopZpx54 _ => .nop
  | .nopZpx74 _ => .nop
  | .nopZpxD4 _ => .nop
  | .nopZpxF4 _ => .nop
  | .nopAbs0C _ => .nop
  | .nopAbx1C _ => .nop
  | .nopAbx3C _ => .nop
  | .nopAbx5C _ => .nop
  | .nopAbx7C _ => .nop
  | .nopAbxDC _ => .nop
  | .nopAbxFC _ => .nop
  | .oraImm _ => .ora
  | .oraZp _ => .ora
  | .oraZpx _ => .ora
  | .oraAbs _ => .ora
  | .oraAbx _ => .ora
  | .oraAby _ => .ora
  | .oraIzx _ => .ora
  | .oraIzy _ => .ora
  | .pha => .pha
  | .php => .php
  | .pla => .pla
  | .plp => .plp
  | .rolAcc => .rol
  | .rolZp _ => .rol
  | .rolZpx _ => .rol
  | .rolAbs _ => .rol
  | .rolAbx _ => .rol
  | .rorAcc => .ror
  | .rorZp _ => .ror
  | .rorZpx _ => .ror
  | .rorAbs _ => .ror
  | .rorAbx _ => .ror
  | .rti => .rti
  | .rts => .rts
  | .sbcImm _ => .sbc
  | .sbcZp _ => .sbc
  | .sbcZpx _ => .sbc
  | .sbcAbs _ => .sbc
  | .sbcAbx _ => .sbc
  | .sbcAby _ => .sbc
  | .sbcIzx _ => .sbc
  | .sbcIzy _ => .sbc
  | .sbcImmEB _ => .sbc
  | .sec => .sec
  | .sed => .sed
  | .sei => .sei
  | .staZp _ => .sta
  | .staZpx _ => .sta
  | .staAbs _ => .sta
  | .staAbx _ => .sta
  | .staAby _ => .sta
  | .staIzx _ => .sta
  | .staIzy _ => .sta
  | .stxZp _ => .stx
  | .stxZpy _ => .stx
  | .stxAbs _ => .stx
  | .styZp _ => .sty
  | .styZpx _ => .sty
  | .styAbs _ => .sty
  | .tax => .tax
  | .tay => .tay
  | .tsx => .tsx
  | .txa => .txa
  | .txs => .txs
  | .tya => .tya

/-- The row's format and operand (30_encoding.md R81, R102, R103, R104). -/
def Instr.mode : Instr → Mode
  | .adcImm b => .imm b
  | .adcZp b => .mem (.zp b)
  | .adcZpx b => .mem (.zpx b)
  | .adcAbs w => .mem (.abs w)
  | .adcAbx w => .mem (.abx w)
  | .adcAby w => .mem (.aby w)
  | .adcIzx b => .mem (.izx b)
  | .adcIzy b => .mem (.izy b)
  | .andImm b => .imm b
  | .andZp b => .mem (.zp b)
  | .andZpx b => .mem (.zpx b)
  | .andAbs w => .mem (.abs w)
  | .andAbx w => .mem (.abx w)
  | .andAby w => .mem (.aby w)
  | .andIzx b => .mem (.izx b)
  | .andIzy b => .mem (.izy b)
  | .aslAcc => .acc
  | .aslZp b => .mem (.zp b)
  | .aslZpx b => .mem (.zpx b)
  | .aslAbs w => .mem (.abs w)
  | .aslAbx w => .mem (.abx w)
  | .bcc d => .rel d
  | .bcs d => .rel d
  | .beq d => .rel d
  | .bitZp b => .mem (.zp b)
  | .bitAbs w => .mem (.abs w)
  | .bmi d => .rel d
  | .bne d => .rel d
  | .bpl d => .rel d
  | .brk => .stk
  | .bvc d => .rel d
  | .bvs d => .rel d
  | .clc => .imp
  | .cld => .imp
  | .cli => .imp
  | .clv => .imp
  | .cmpImm b => .imm b
  | .cmpZp b => .mem (.zp b)
  | .cmpZpx b => .mem (.zpx b)
  | .cmpAbs w => .mem (.abs w)
  | .cmpAbx w => .mem (.abx w)
  | .cmpAby w => .mem (.aby w)
  | .cmpIzx b => .mem (.izx b)
  | .cmpIzy b => .mem (.izy b)
  | .cpxImm b => .imm b
  | .cpxZp b => .mem (.zp b)
  | .cpxAbs w => .mem (.abs w)
  | .cpyImm b => .imm b
  | .cpyZp b => .mem (.zp b)
  | .cpyAbs w => .mem (.abs w)
  | .decZp b => .mem (.zp b)
  | .decZpx b => .mem (.zpx b)
  | .decAbs w => .mem (.abs w)
  | .decAbx w => .mem (.abx w)
  | .dex => .imp
  | .dey => .imp
  | .eorImm b => .imm b
  | .eorZp b => .mem (.zp b)
  | .eorZpx b => .mem (.zpx b)
  | .eorAbs w => .mem (.abs w)
  | .eorAbx w => .mem (.abx w)
  | .eorAby w => .mem (.aby w)
  | .eorIzx b => .mem (.izx b)
  | .eorIzy b => .mem (.izy b)
  | .incZp b => .mem (.zp b)
  | .incZpx b => .mem (.zpx b)
  | .incAbs w => .mem (.abs w)
  | .incAbx w => .mem (.abx w)
  | .inx => .imp
  | .iny => .imp
  | .jmpAbs w => .mem (.abs w)
  | .jmpInd w => .ind w
  | .jsr w => .mem (.abs w)
  | .ldaImm b => .imm b
  | .ldaZp b => .mem (.zp b)
  | .ldaZpx b => .mem (.zpx b)
  | .ldaAbs w => .mem (.abs w)
  | .ldaAbx w => .mem (.abx w)
  | .ldaAby w => .mem (.aby w)
  | .ldaIzx b => .mem (.izx b)
  | .ldaIzy b => .mem (.izy b)
  | .ldxImm b => .imm b
  | .ldxZp b => .mem (.zp b)
  | .ldxZpy b => .mem (.zpy b)
  | .ldxAbs w => .mem (.abs w)
  | .ldxAby w => .mem (.aby w)
  | .ldyImm b => .imm b
  | .ldyZp b => .mem (.zp b)
  | .ldyZpx b => .mem (.zpx b)
  | .ldyAbs w => .mem (.abs w)
  | .ldyAbx w => .mem (.abx w)
  | .lsrAcc => .acc
  | .lsrZp b => .mem (.zp b)
  | .lsrZpx b => .mem (.zpx b)
  | .lsrAbs w => .mem (.abs w)
  | .lsrAbx w => .mem (.abx w)
  | .nop => .imp
  | .nopImp1A => .imp
  | .nopImp3A => .imp
  | .nopImp5A => .imp
  | .nopImp7A => .imp
  | .nopImpDA => .imp
  | .nopImpFA => .imp
  | .nopImm80 b => .imm b
  | .nopImm82 b => .imm b
  | .nopImm89 b => .imm b
  | .nopImmC2 b => .imm b
  | .nopImmE2 b => .imm b
  | .nopZp04 b => .mem (.zp b)
  | .nopZp44 b => .mem (.zp b)
  | .nopZp64 b => .mem (.zp b)
  | .nopZpx14 b => .mem (.zpx b)
  | .nopZpx34 b => .mem (.zpx b)
  | .nopZpx54 b => .mem (.zpx b)
  | .nopZpx74 b => .mem (.zpx b)
  | .nopZpxD4 b => .mem (.zpx b)
  | .nopZpxF4 b => .mem (.zpx b)
  | .nopAbs0C w => .mem (.abs w)
  | .nopAbx1C w => .mem (.abx w)
  | .nopAbx3C w => .mem (.abx w)
  | .nopAbx5C w => .mem (.abx w)
  | .nopAbx7C w => .mem (.abx w)
  | .nopAbxDC w => .mem (.abx w)
  | .nopAbxFC w => .mem (.abx w)
  | .oraImm b => .imm b
  | .oraZp b => .mem (.zp b)
  | .oraZpx b => .mem (.zpx b)
  | .oraAbs w => .mem (.abs w)
  | .oraAbx w => .mem (.abx w)
  | .oraAby w => .mem (.aby w)
  | .oraIzx b => .mem (.izx b)
  | .oraIzy b => .mem (.izy b)
  | .pha => .stk
  | .php => .stk
  | .pla => .stk
  | .plp => .stk
  | .rolAcc => .acc
  | .rolZp b => .mem (.zp b)
  | .rolZpx b => .mem (.zpx b)
  | .rolAbs w => .mem (.abs w)
  | .rolAbx w => .mem (.abx w)
  | .rorAcc => .acc
  | .rorZp b => .mem (.zp b)
  | .rorZpx b => .mem (.zpx b)
  | .rorAbs w => .mem (.abs w)
  | .rorAbx w => .mem (.abx w)
  | .rti => .stk
  | .rts => .stk
  | .sbcImm b => .imm b
  | .sbcZp b => .mem (.zp b)
  | .sbcZpx b => .mem (.zpx b)
  | .sbcAbs w => .mem (.abs w)
  | .sbcAbx w => .mem (.abx w)
  | .sbcAby w => .mem (.aby w)
  | .sbcIzx b => .mem (.izx b)
  | .sbcIzy b => .mem (.izy b)
  | .sbcImmEB b => .imm b
  | .sec => .imp
  | .sed => .imp
  | .sei => .imp
  | .staZp b => .mem (.zp b)
  | .staZpx b => .mem (.zpx b)
  | .staAbs w => .mem (.abs w)
  | .staAbx w => .mem (.abx w)
  | .staAby w => .mem (.aby w)
  | .staIzx b => .mem (.izx b)
  | .staIzy b => .mem (.izy b)
  | .stxZp b => .mem (.zp b)
  | .stxZpy b => .mem (.zpy b)
  | .stxAbs w => .mem (.abs w)
  | .styZp b => .mem (.zp b)
  | .styZpx b => .mem (.zpx b)
  | .styAbs w => .mem (.abs w)
  | .tax => .imp
  | .tay => .imp
  | .tsx => .imp
  | .txa => .imp
  | .txs => .imp
  | .tya => .imp

/-- The length of an instruction of a format, in bytes (30_encoding.md R81, R99). -/
def MemMode.length : MemMode → Nat
  | .zp _ | .zpx _ | .zpy _ | .izx _ | .izy _ => 2
  | .abs _ | .abx _ | .aby _ => 3

@[inherit_doc MemMode.length]
def Mode.length : Mode → Nat
  | .imp | .stk | .acc => 1
  | .imm _ | .rel _ => 2
  | .mem m => m.length
  | .ind _ => 3

/-- "No. Bytes" of the row (30_encoding.md R99). BRK's is 1, as in the table (90_conflicts.md C3). -/
def Instr.length (i : Instr) : Nat := i.mode.length

end Sys2Proof
end

