-- ==== Sys2Proof/Machine/Bits.lean ====
section
/-! DEFINITION. Byte order and sign extension (00_scope.md R10, 20_memory.md R51). -/

namespace Sys2Proof

/-- The 16-bit value stored as low byte, then high byte: `lo + 256 * hi` (20_memory.md R51). -/
def wordOf (lo hi : Byte) : Word := hi ++ lo

/-- `lo(w)`, bits 7 to 0 (00_scope.md R10). -/
def loByte (w : Word) : Byte := w.extractLsb' 0 8

/-- `hi(w)`, bits 15 to 8 (00_scope.md R10). -/
def hiByte (w : Word) : Byte := w.extractLsb' 8 8

/-- `zext_16(b)` (00_scope.md R10): a zero-page address (30_encoding.md R83 b). -/
def zext16 (b : Byte) : Word := b.setWidth 16

/-- A signed displacement as 16 bits (`sext_16` of its byte, 30_encoding.md R83 d). -/
def sext16 (d : Int) : Word := BitVec.ofInt 16 d

end Sys2Proof
end

