-- ==== Sys2Proof/Config.lean ====
section
/-! DEFINITION. What an implementation or its environment fixes: the open parameters of 00_scope.md R6 as plain
data, and the free values. -/

namespace Sys2Proof

/-- The byte the environment answers with where the spec gives none: a device register, an unmapped address, an
input pin, bits 7 and 6 of the port (20_memory.md R57, 10_state.md R38, 93_implementation_defined.md U4, U5, U13).
It has no body, so nothing can be proved of its value; the argument numbers the draws. Log entry 17. -/
opaque Config.freeByte : Nat → Byte

/-- What an address holds at power-on, before anything is written there (20_memory.md R57, R68, 92_eei_decisions.md
D18, 93_implementation_defined.md U5). It has no body, so nothing can be proved of its value; the argument is the
address, so every read of one cell before the first write gives one byte (20_memory.md R60, R69). Log entry 8. -/
opaque Config.powerOnByte : Nat → Byte

/-- BRK_D: whether BRK clears D (R6, 43_brk_rti_nop.md R160 c). Log entry 3. -/
inductive BrkD where
  | clear | keep
  deriving DecidableEq, Repr

/-- I_LATENCY: whether a change of I by CLI, SEI or PLP is felt one check late (R6, 60_exceptions.md R236).
Log entry 4. -/
inductive ILatency where
  | exact | none
  deriving DecidableEq, Repr

/-- PORT_MODEL: whether $0000 and $0001 are the on-chip port or plain memory (R6, 10_state.md R38). Log entry 6. -/
inductive PortModel where
  | device | plainRam
  deriving DecidableEq, Repr

/-- What the platform holds at an address (20_memory.md R57, 92_eei_decisions.md D5). -/
inductive RegionKind where
  /-- Reads return the last write. -/
  | ram
  /-- Reads return the contents; writes are ignored. -/
  | rom
  /-- Reads return a byte the environment chooses; a write is an event, seen in the trace. -/
  | device
  /-- Reads return any value; writes are ignored. -/
  | unmapped
  deriving DecidableEq, Repr

/-- A run of addresses of one kind. -/
structure Region where
  base : Nat
  size : Nat
  kind : RegionKind
  deriving DecidableEq, Repr

/-- The open parameters of R6. No step writes them (10_state.md R45). Log entry 1. -/
structure Params where
  brkD : BrkD
  iLatency : ILatency
  port : PortModel
  platform : List Region   -- the first region that holds an address decides; an address in none is RAM
  deriving DecidableEq, Repr

end Sys2Proof
end

