-- ==== Sys2Proof/Machine/State.lean ====
section
/-! DEFINITION. The machine's state as plain data, the reasons a step can stop, and the state right after reset. -/

namespace Sys2Proof.Machine

open Sys2Proof

/-- The six flags of P that are state (10_state.md R27). Bits 5 and 4 are not stored. -/
structure Flags where
  n : Bool   -- negative, R28
  v : Bool   -- overflow, R29
  d : Bool   -- decimal mode, R30
  i : Bool   -- interrupt disable, R31
  z : Bool   -- zero, R32
  c : Bool   -- carry, R33
  deriving DecidableEq, Repr

/-- The three input lines, `true` for asserted (10_state.md R40, R41, R43). -/
structure Lines where
  irq : Bool
  nmi : Bool
  res : Bool
  deriving DecidableEq, Repr

/-- What the environment presents at one instruction boundary (00_scope.md R6, 92_eei_decisions.md D4): the levels of
the lines, and whether the NMI input went from released to asserted since the boundary before at a moment its levels
at the two boundaries do not show (a pulse, or a release followed by a new assertion). Log entry 14. -/
structure Sample where
  lines : Lines
  nmiPulse : Bool
  deriving DecidableEq, Repr

/-- One memory access of the CPU (20_memory.md R57): the address and the byte moved. -/
inductive Access where
  | read (addr : Word) (value : Byte)
  | write (addr : Word) (value : Byte)
  deriving DecidableEq, Repr

/-- Memory as (address, byte) pairs in one canonical form (`Memory.wf` in Ops.lean): addresses strictly rising and
below 65,536. An address is listed where a byte has been placed or written; one that is not holds what it held at
power-on, `Config.powerOnByte`. Log entry 8. -/
abbrev Memory := List Host.Cell

/-- The state. The fields down to `irqInhibitNext` are the spec's; `schedule` to `trace` are the model's own
(INVENTORY.md, State); `params` holds the parameters of 00_scope.md R6, which no step writes. -/
structure State where
  a : Byte                -- accumulator A, 10_state.md R20
  x : Byte                -- index X, R21
  y : Byte                -- index Y, R22
  sp : Byte               -- stack pointer S, R23
  pc : Word               -- program counter, R24
  p : Flags               -- processor status, R26
  mem : Memory            -- R39
  portDdr : BitVec 6      -- port data direction register, R38
  portLatch : BitVec 6    -- port output latch, R38
  lines : Lines           -- the lines as last sampled, R40, R41, R43
  nmiPending : Bool       -- R41
  irqInhibitNext : Bool   -- R42
  schedule : List Sample  -- samples still to come, one per boundary, log entry 14
  answers : List Byte     -- the environment's next answers, log entry 17
  draws : Nat             -- free bytes taken so far, log entry 17
  trace : List Access     -- every access so far, newest first, R57, log entry 18
  params : Params         -- R45, log entry 1
  deriving DecidableEq, Repr

/-- The 6510 raises no exception and nothing stops it (60_exceptions.md R230; 93_implementation_defined.md: "Nothing
in the 6510 as specified here is treated as fault or stuck"), so there is no fault to name. Log entry 29. -/
inductive Fault where
  deriving DecidableEq, Repr

/-- Why the model declines to step. A limit of the model, not an event of the chip (R230). -/
inductive Refusal where
  /-- An instruction without a meaning; raised by `exec` alone. Safe: nothing is claimed of it. No arm uses it. -/
  | notModelled (mnemonic : String)
  /-- The opcode fetched at `pc` is one of the 77 in no 6510 table (30_encoding.md R98, R107); raised by `step`.
  Safe: no meaning is invented (92_eei_decisions.md D1). Log entry 20. -/
  | unlistedOpcode (op : Byte) (pc : Word)
  deriving DecidableEq, Repr

/-- The machine right after the reset sequence (10_state.md R44, 70_reset_and_hazards.md R260, R261). Stated by the
spec: I = 1, `nmi_pending` = 0, `irq_inhibit_next` = 0, DDR = $00, PC = Read16($FFFC). The rest is named in log
entries 3 to 14, 17 and 18; PC is what the reset vector reads in memory nothing has written, a free value (entries 8, 12). -/
def State.reset : State where
  a := 0x00
  x := 0x00
  y := 0x00
  sp := 0xFD
  pc := wordOf (Config.powerOnByte 0xFFFC) (Config.powerOnByte 0xFFFD)
  p := { n := false, v := false, d := false, i := true, z := false, c := false }
  mem := []
  portDdr := 0
  portLatch := 0
  lines := { irq := false, nmi := false, res := false }
  nmiPending := false
  irqInhibitNext := false
  schedule := []
  answers := []
  draws := 0
  trace := []
  params := { brkD := .clear, iLatency := .exact, port := .device, platform := [] }

end Sys2Proof.Machine
end

