-- ==== Sys2Proof/Machine/Flags.lean ====
section
/-! DEFINITION. Every flag computation, as functions on the flags and the operand bytes, and the packing of P. -/

namespace Sys2Proof.Machine

open Sys2Proof

/-- `SetNZ(v)` (10_state.md R35). -/
def Flags.setNZ (p : Flags) (v : Byte) : Flags := { p with n := v.msb, z := v == 0 }

/-- `PackP(b)` (R34): N V 1 b D I Z C, bit 7 first. -/
def Flags.pack (p : Flags) (b : Bool) : Byte :=
  BitVec.ofNat 8 (128 * p.n.toNat + 64 * p.v.toNat + 32 + 16 * b.toNat
    + 8 * p.d.toNat + 4 * p.i.toNat + 2 * p.z.toNat + p.c.toNat)

/-- `UnpackP(v)` (R34): bits 5 and 4 go nowhere. -/
def Flags.unpack (v : Byte) : Flags where
  n := v.getLsbD 7
  v := v.getLsbD 6
  d := v.getLsbD 3
  i := v.getLsbD 2
  z := v.getLsbD 1
  c := v.getLsbD 0

/-- Replace V and C. -/
def Flags.setVC (p : Flags) (v c : Bool) : Flags := { p with v := v, c := c }

/-- Replace C. -/
def Flags.setC (p : Flags) (c : Bool) : Flags := { p with c := c }

/-- ADC in binary mode (40_alu.md R120): the new A and the flags. -/
def adcBinary (p : Flags) (a m : Byte) : Byte × Flags :=
  let t := a.toNat + m.toNat + p.c.toNat
  let r : Byte := BitVec.ofNat 8 t
  (r, (p.setVC (a.msb == m.msb && r.msb != a.msb) (decide (t > 255))).setNZ r)

/-- `sx(v)` of R121: the two's complement value of `v` in 0..255. -/
def sx (v : Nat) : Int := if v < 128 then v else (v : Int) - 256

/-- `v & $F0` of a byte, as a number. -/
def highDigit (v : Byte) : Nat := v.toNat / 16 * 16

/-- `v & $0F` of a byte, as a number. -/
def lowDigit (v : Byte) : Nat := v.toNat % 16

/-- `AL` of R121 after its decimal adjustment. -/
def adcLow (p : Flags) (a m : Byte) : Nat :=
  let al := lowDigit a + lowDigit m + p.c.toNat
  if al ≥ 10 then (al + 6) % 16 + 16 else al

/-- ADC in decimal mode (R121): Z from the binary sum, N and V from the sum before the high digit's adjustment. -/
def adcDecimal (p : Flags) (a m : Byte) : Byte × Flags :=
  let bin : Byte := BitVec.ofNat 8 (a.toNat + m.toNat + p.c.toNat)
  let al := adcLow p a m
  let hs : Int := sx (highDigit a) + sx (highDigit m) + al
  let t0 := highDigit a + highDigit m + al
  let t := if t0 ≥ 0xA0 then t0 + 0x60 else t0
  (BitVec.ofNat 8 t,
    { p with
      n := decide (hs % 256 ≥ 128)
      v := decide (hs < -128) || decide (hs > 127)
      z := bin == 0
      c := decide (t ≥ 0x100) })

/-- ADC: D selects the arithmetic (R120). -/
def adc (p : Flags) (a m : Byte) : Byte × Flags := if p.d then adcDecimal p a m else adcBinary p a m

/-- The exact difference `A - M - (1 - C)` (R129). -/
def sbcExact (p : Flags) (a m : Byte) : Int := (a.toNat : Int) - m.toNat - (1 - p.c.toNat)

/-- The 8-bit binary difference `r` of R129. -/
def sbcResult (p : Flags) (a m : Byte) : Byte := BitVec.ofInt 8 (sbcExact p a m)

/-- The flags of SBC, in binary and in decimal mode alike (R129, R130). -/
def sbcFlags (p : Flags) (a m : Byte) : Flags :=
  let r := sbcResult p a m
  (p.setVC (a.msb != m.msb && r.msb != a.msb) (decide (sbcExact p a m ≥ 0))).setNZ r

/-- `AL` of R130 after its decimal adjustment. -/
def sbcLow (p : Flags) (a m : Byte) : Int :=
  let al : Int := (lowDigit a : Int) - lowDigit m + p.c.toNat - 1
  if al < 0 then (al - 6) % 16 - 16 else al

/-- The value SBC leaves in A in decimal mode (R130). -/
def sbcDecimal (p : Flags) (a m : Byte) : Byte :=
  let d : Int := (highDigit a : Int) - highDigit m + sbcLow p a m
  BitVec.ofInt 8 (if d < 0 then d - 0x60 else d)

/-- SBC: D selects the value of A, the flags are always the binary ones (R129, R130). -/
def sbc (p : Flags) (a m : Byte) : Byte × Flags :=
  (if p.d then sbcDecimal p a m else sbcResult p a m, sbcFlags p a m)

/-- AND (R122). -/
def andOp (p : Flags) (a m : Byte) : Byte × Flags := (a &&& m, p.setNZ (a &&& m))

/-- EOR (R127). -/
def eorOp (p : Flags) (a m : Byte) : Byte × Flags := (a ^^^ m, p.setNZ (a ^^^ m))

/-- ORA (R128). -/
def oraOp (p : Flags) (a m : Byte) : Byte × Flags := (a ||| m, p.setNZ (a ||| m))

/-- The flags of CMP, CPX and CPY (R124 to R126): C is `r >= m` unsigned, N and Z those of the difference. -/
def compareFlags (p : Flags) (r m : Byte) : Flags := (p.setC (decide (r.toNat ≥ m.toNat))).setNZ (r - m)

/-- The flags of BIT (R123): Z from `A & M`, N and V from bits 7 and 6 of `M`. -/
def bitFlags (p : Flags) (a m : Byte) : Flags :=
  { p with n := m.getLsbD 7, v := m.getLsbD 6, z := a &&& m == 0 }

/-- ASL (41_shift_rotate.md R141): result and flags. -/
def aslOp (p : Flags) (v : Byte) : Byte × Flags :=
  let r : Byte := BitVec.ofNat 8 (2 * v.toNat)
  (r, (p.setC (v.getLsbD 7)).setNZ r)

/-- LSR (R142): N is written 0. -/
def lsrOp (p : Flags) (v : Byte) : Byte × Flags :=
  let r : Byte := BitVec.ofNat 8 (v.toNat / 2)
  (r, { p with n := false, z := r == 0, c := v.getLsbD 0 })

/-- ROL (R143): the old C enters at bit 0. -/
def rolOp (p : Flags) (v : Byte) : Byte × Flags :=
  let r : Byte := BitVec.ofNat 8 (2 * v.toNat % 256 + p.c.toNat)
  (r, (p.setC (v.getLsbD 7)).setNZ r)

/-- ROR (R144): the old C enters at bit 7. -/
def rorOp (p : Flags) (v : Byte) : Byte × Flags :=
  let r : Byte := BitVec.ofNat 8 (v.toNat / 2 + 128 * p.c.toNat)
  (r, (p.setC (v.getLsbD 0)).setNZ r)

/-- INC, INX, INY (45_inc_dec.md R183 to R185): add one modulo 256; only N and Z are written. -/
def incOp (p : Flags) (v : Byte) : Byte × Flags := (v + 1, p.setNZ (v + 1))

/-- DEC, DEX, DEY (R180 to R182): subtract one modulo 256; only N and Z are written. -/
def decOp (p : Flags) (v : Byte) : Byte × Flags := (v - 1, p.setNZ (v - 1))

end Sys2Proof.Machine
end

