-- ==== Sys2Proof/Machine/Ops.lean ====
section
/-! DEFINITION. The named operations over memory and registers, taking an interrupt and returning from one, the
reset sequence, and the check made at each instruction boundary. -/

namespace Sys2Proof.Machine

open Sys2Proof

/-! ### Memory -/

/-- The canonical form: addresses strictly rising and below 65,536. -/
def Memory.wf (m : Memory) : Bool :=
  decide (m.Pairwise (fun c c' => c.1 < c'.1)) && m.all (fun c => decide (c.1 < 65536))

/-- The byte written at an address, or `none` where none has been. -/
def Memory.get : Memory → Nat → Option Byte
  | [], _ => none
  | (k, v) :: rest, addr => if addr = k then some v else Memory.get rest addr

/-- Set the byte at an address, keeping the canonical form. -/
def Memory.put : Memory → Nat → Byte → Memory
  | [], addr, v => [(addr, v)]
  | (k, w) :: rest, addr, v =>
    if addr < k then (addr, v) :: (k, w) :: rest
    else if addr = k then (addr, v) :: rest
    else (k, w) :: Memory.put rest addr v

/-- The contents of memory at an address: the byte last written there (20_memory.md R60), or the free byte it held at
power-on where none was (R68, 92_eei_decisions.md D18). Log entry 8. -/
def Memory.byteAt (m : Memory) (addr : Nat) : Byte := (m.get addr).getD (Config.powerOnByte addr)

/-! ### Named updates of the state -/

def State.setA (s : State) (v : Byte) : State := { s with a := v }
def State.setX (s : State) (v : Byte) : State := { s with x := v }
def State.setY (s : State) (v : Byte) : State := { s with y := v }
def State.setSp (s : State) (v : Byte) : State := { s with sp := v }
def State.setPc (s : State) (v : Word) : State := { s with pc := v }
def State.setP (s : State) (v : Flags) : State := { s with p := v }
def State.setMem (s : State) (v : Memory) : State := { s with mem := v }
def State.setDdr (s : State) (v : BitVec 6) : State := { s with portDdr := v }
def State.setLatch (s : State) (v : BitVec 6) : State := { s with portLatch := v }
def State.setNmiPending (s : State) (v : Bool) : State := { s with nmiPending := v }
def State.setInhibit (s : State) (v : Bool) : State := { s with irqInhibitNext := v }

/-- Record an access (20_memory.md R57). -/
def State.log (s : State) (acc : Access) : State := { s with trace := acc :: s.trace }

/-- Write I. -/
def State.setI (s : State) (v : Bool) : State := s.setP { s.p with i := v }

/-- Move PC past `n` bytes, modulo 65,536 (10_state.md R25). -/
def State.advance (s : State) (n : Nat) : State := s.setPc (s.pc + BitVec.ofNat 16 n)

/-! ### What answers at an address -/

/-- What the platform holds at an address: the first region that contains it, RAM where none does. -/
def regionKind : List Region → Nat → RegionKind
  | [], _ => .ram
  | r :: rest, addr => if r.base ≤ addr ∧ addr < r.base + r.size then r.kind else regionKind rest addr

/-- What an access to an address reaches: a port register, or what the platform holds there. -/
inductive Target where
  | ddr | data | region (k : RegionKind)
  deriving DecidableEq, Repr

/-- The address map as far as the CPU fixes it (20_memory.md R54): with the port present, $0000 and $0001 are its
registers and never reach the platform (10_state.md R38). -/
def targetOf (c : Params) (addr : Word) : Target :=
  if c.port = .device ∧ addr = 0 then .ddr
  else if c.port = .device ∧ addr = 1 then .data
  else .region (regionKind c.platform addr.toNat)

/-- The contents of memory at an address, looked at without an access. -/
def State.peek (s : State) (addr : Word) : Byte := s.mem.byteAt addr.toNat

/-- A byte from the environment: its next given answer, or a free byte when none is given. -/
def State.draw (s : State) : Byte × State :=
  match s.answers with
  | b :: rest => (b, { s with answers := rest })
  | [] => (Config.freeByte s.draws, { s with draws := s.draws + 1 })

/-- A read of the direction register (10_state.md R38): the six implemented bits; bits 7 and 6 are the
environment's. -/
def ddrRead (ddr : BitVec 6) (env : Byte) : Byte := env.extractLsb' 6 2 ++ ddr

/-- A read of the data register (R38): an output bit (DDR 1) reads the latch, an input bit (DDR 0) the pin; bits 7
and 6 are the environment's. -/
def dataRead (ddr latch : BitVec 6) (env : Byte) : Byte :=
  env.extractLsb' 6 2 ++ ((latch &&& ddr) ||| (env.setWidth 6 &&& ~~~ddr))

/-- The byte a read gives and the state after the environment has answered. -/
def State.answer (s : State) (addr : Word) : Byte × State :=
  match targetOf s.params addr with
  | .ddr => (ddrRead s.portDdr s.draw.1, s.draw.2)
  | .data => (dataRead s.portDdr s.portLatch s.draw.1, s.draw.2)
  | .region .ram => (s.peek addr, s)
  | .region .rom => (s.peek addr, s)
  | .region .device => s.draw
  | .region .unmapped => s.draw

/-- `MemRead(addr, 1)` (20_memory.md R57). -/
def State.load (s : State) (addr : Word) : Byte × State :=
  let r := s.answer addr
  (r.1, r.2.log (.read addr r.1))

/-- What a write changes at its address; a port register keeps its six implemented bits (10_state.md R38). -/
def State.accept (s : State) (addr : Word) (v : Byte) : State :=
  match targetOf s.params addr with
  | .ddr => s.setDdr (v.setWidth 6)
  | .data => s.setLatch (v.setWidth 6)
  | .region .ram => s.setMem (s.mem.put addr.toNat v)
  | .region .rom => s
  | .region .device => s
  | .region .unmapped => s

/-- `MemWrite(addr, 1, v)` (20_memory.md R57). -/
def State.store (s : State) (addr : Word) (v : Byte) : State := (s.accept addr v).log (.write addr v)

/-- `Read16(addr)` (00_scope.md R10): low byte first. -/
def State.loadWord (s : State) (addr : Word) : Word × State :=
  let lo := s.load addr
  let hi := lo.2.load (addr + 1)
  (wordOf lo.1 hi.1, hi.2)

/-! ### The stack -/

/-- The stack address `0x0100 + S` (20_memory.md R58). -/
def stackAddr (sp : Byte) : Word := 0x0100 + zext16 sp

/-- `Push(v)` (R58): write at S, then decrement S. -/
def State.push (s : State) (v : Byte) : State := (s.store (stackAddr s.sp) v).setSp (s.sp - 1)

/-- `Pull()` (R58): increment S, then read. -/
def State.pull (s : State) : Byte × State := (s.setSp (s.sp + 1)).load (stackAddr (s.sp + 1))

/-- Push a 16-bit value, high byte first (20_memory.md R51). -/
def State.pushWord (s : State) (w : Word) : State := (s.push (hiByte w)).push (loByte w)

/-- Pull a 16-bit value, low byte first. -/
def State.pullWord (s : State) : Word × State :=
  let lo := s.pull
  let hi := lo.2.pull
  (wordOf lo.1 hi.1, hi.2)

/-! ### Taking an interrupt, and returning from one -/

/-- The vector addresses (60_exceptions.md R232). -/
def nmiVector : Word := 0xFFFA
@[inherit_doc nmiVector]
def resetVector : Word := 0xFFFC
@[inherit_doc nmiVector]
def irqVector : Word := 0xFFFE

/-- Entry through a vector (R237; for BRK 43_brk_rti_nop.md R160): push the return address and P with bit 4 = `b`,
set I, load PC from the vector. -/
def State.enter (s : State) (ret : Word) (b : Bool) (vector : Word) : State :=
  let s1 := (((s.pushWord ret).push (s.p.pack b)).setI true).loadWord vector
  s1.2.setPc s1.1

/-- Return from interrupt (43_brk_rti_nop.md R161, 60_exceptions.md R242): pull P, then PC. -/
def State.leave (s : State) : State :=
  let p := s.pull
  let ret := (p.2.setP (Flags.unpack p.1)).pullWord
  ret.2.setPc ret.1

/-- The reset sequence (70_reset_and_hazards.md R260): S drops by 3 with no write, I is set, the pending bits and
the direction register are cleared, PC is loaded from $FFFC; nothing else changes. -/
def State.resetSequence (s : State) : State :=
  let s1 := (((s.setSp (s.sp - 3)).setI true).setNmiPending false).setInhibit false
  let s2 := match s.params.port with
    | .device => s1.setDdr 0
    | .plainRam => s1
  let r := s2.loadWord resetVector
  r.2.setPc r.1

/-- A change of I by CLI, SEI or PLP has just been made from `old` (60_exceptions.md R236): with I_LATENCY = exact
the next check decides with the old value. -/
def State.noteIChange (s : State) (old : Bool) : State :=
  match s.params.iLatency with
  | .exact => if s.p.i != old then s.setInhibit true else s
  | .none => s

/-! ### The instruction boundary -/

/-- Sample the lines once (92_eei_decisions.md D4): the next entry of the schedule, or the level already there when
the schedule is used up. An edge of NMI since the boundary before sets `nmi_pending` (60_exceptions.md R234), whether
the two levels show it or a pulse between them does, so edges can come at consecutive boundaries. DESIGN CHOICE: the
spec gives a level per boundary (00_scope.md R6) and a latch the environment may set between any two (D4); a sample
holds both. Log entry 14. -/
def State.sampleLines (s : State) : State :=
  match s.schedule with
  | [] => s
  | l :: rest =>
    { s with
      lines := l.lines
      schedule := rest
      nmiPending := s.nmiPending || l.nmiPulse || (l.lines.nmi && !s.lines.nmi) }

/-- What a boundary leads to. -/
inductive Event where
  | held      -- RES is asserted: the CPU executes nothing (10_state.md R43)
  | reset     -- RES has been released
  | nmi
  | irq
  | execute
  deriving DecidableEq, Repr

/-- The interrupt check's choice (60_exceptions.md R235, R240), from the RES level before the sample and the state
after it. I is the one that held before a just-executed CLI, SEI or PLP changed it. -/
def State.event (wasRes : Bool) (s : State) : Event :=
  if s.lines.res then .held
  else if wasRes then .reset
  else if s.nmiPending then .nmi
  else if s.lines.irq && !(s.p.i ^^ s.irqInhibitNext) then .irq
  else .execute

/-- One boundary: sample the lines, choose, and make the reset or entry sequence if one was chosen (R235). -/
def State.boundary (s : State) : Event × State :=
  let s1 := s.sampleLines
  let s2 := s1.setInhibit false
  match s1.event s.lines.res with
  | .held => (.held, s1)
  | .reset => (.reset, s2.resetSequence)
  | .nmi => (.nmi, (s2.setNmiPending false).enter s2.pc false nmiVector)
  | .irq => (.irq, s2.enter s2.pc false irqVector)
  | .execute => (.execute, s2)

/-- Put a byte into memory without an access (loading a program from outside the machine, log entry 23). -/
def State.poke (s : State) (addr : Word) (v : Byte) : State := s.setMem (s.mem.put addr.toNat v)

end Sys2Proof.Machine
end

