-- ==== Sys2Proof/Machine/Operands.lean ====
section
/-! DEFINITION. Every operand form: the effective address of each memory mode, the operand `M`, the branch target,
and the shapes instructions share (30_encoding.md R84 to R97). -/

namespace Sys2Proof.Machine

open Sys2Proof

/-- What executing an instruction answers. -/
abbrev Result := Host.Outcome State Fault Refusal

/-- `Read16zp(z)` (00_scope.md R10): the second byte's address wraps inside page zero (20_memory.md R55). -/
def State.loadZpWord (s : State) (z : Byte) : Word × State :=
  let lo := s.load (zext16 z)
  let hi := lo.2.load (zext16 (z + 1))
  (wordOf lo.1 hi.1, hi.2)

/-- The effective address (30_encoding.md R87 to R94) and the state after the pointer reads it takes. Zero-page sums
wrap modulo 256, 16-bit sums modulo 65,536; an index is unsigned. -/
def ea (m : MemMode) (s : State) : Word × State :=
  match m with
  | .zp b => (zext16 b, s)
  | .zpx b => (zext16 (b + s.x), s)
  | .zpy b => (zext16 (b + s.y), s)
  | .abs w => (w, s)
  | .abx w => (w + zext16 s.x, s)
  | .aby w => (w + zext16 s.y, s)
  | .izx b => s.loadZpWord (b + s.x)
  | .izy b => let r := s.loadZpWord b; (r.1 + zext16 s.y, r.2)

/-- The operand `M` in a memory mode (R95): one read at the effective address, after the mode's own reads. -/
def fetchOperand (m : MemMode) (s : State) : Byte × State := (ea m s).2.load (ea m s).1

/-- The operand `M` in immediate mode (R86): the operand byte. -/
def immediate (b : Byte) (s : State) : Byte × State := (b, s)

/-- The operand `M` of a format that has one (R95); the others have none. -/
def operandOf (mode : Mode) (s : State) : Option (Byte × State) :=
  match mode with
  | .imm b => some (immediate b s)
  | .mem m => some (fetchOperand m s)
  | .acc => some (s.a, s)
  | .imp | .stk | .rel _ | .ind _ => none

/-! ### Shapes that instructions share. `o` is an operand already fetched, with the state after the fetch. -/

/-- `A` and the flags from `A` and `M` (ADC, SBC, AND, EOR, ORA). -/
def aluA (f : Flags → Byte → Byte → Byte × Flags) (o : Byte × State) : State :=
  let r := f o.2.p o.2.a o.1
  (o.2.setA r.1).setP r.2

/-- Only the flags, from a register and `M` (CMP, CPX, CPY, BIT). -/
def testFlags (f : Flags → Byte → Byte → Flags) (reg : State → Byte) (o : Byte × State) : State :=
  o.2.setP (f o.2.p (reg o.2) o.1)

/-- LDA, LDX, LDY (47_load_store.md R200 to R202): the byte to a register, N and Z from it. -/
def loadInto (set : State → Byte → State) (o : Byte × State) : State :=
  (set o.2 o.1).setP (o.2.p.setNZ o.1)

/-- STA, STX, STY (R203 to R205): a register to the effective address, which is not read. -/
def storeFrom (m : MemMode) (reg : State → Byte) (s : State) : State :=
  (ea m s).2.store (ea m s).1 (reg s)

/-- Read-modify-write in a memory mode (30_encoding.md R95): one read, one write, one effective address. -/
def modifyMem (m : MemMode) (f : Flags → Byte → Byte × Flags) (s : State) : State :=
  let v := fetchOperand m s
  let r := f v.2.p v.1
  (v.2.store (ea m s).1 r.1).setP r.2

/-- The same operation on a register: accumulator mode (R85), or an index register. -/
def modifyReg (set : State → Byte → State) (reg : State → Byte) (f : Flags → Byte → Byte × Flags) (s : State) :
    State :=
  let r := f s.p (reg s)
  (set s r.1).setP r.2

/-- TAX, TAY, TSX, TXA, TYA (49_transfer.md R220 to R223, R225): copy, N and Z from the byte copied. -/
def transfer (set : State → Byte → State) (reg : State → Byte) (s : State) : State :=
  (set s (reg s)).setP (s.p.setNZ (reg s))

/-- A branch (42_branches.md R150), PC already past its two bytes: add the displacement where the condition holds. -/
def branchIf (cond : Bool) (d : Int) (s : State) : State :=
  if cond then s.setPc (s.pc + sext16 d) else s

/-- The pointer of JMP (Abs.Indirect) (30_encoding.md R97): the second byte comes from the same page. -/
def State.loadIndirect (s : State) (w : Word) : Word × State :=
  let lo := s.load w
  let hi := lo.2.load (wordOf (loByte w + 1) (hiByte w))
  (wordOf lo.1 hi.1, hi.2)

end Sys2Proof.Machine
end

