-- ==== Sys2Proof/Machine/Alu.lean ====
section
/-! DEFINITION. The arithmetic, logic and compare instructions (40_alu.md R120 to R131): ADC, AND, BIT, CMP, CPX, CPY, EOR, ORA, SBC.
Every meaning starts from the state with PC at the opcode, and moves PC past the instruction first (30_encoding.md
R98). Log entry 31. -/

namespace Sys2Proof.Machine

open Sys2Proof

/-- `ADC #$FF`, $69 (R120, R86). -/
def execAdcImm (b : Byte) (s : State) : Result := .next (aluA adc (immediate b (s.advance 2)))

/-- `ADC $FF`, $65 (R120, R87). -/
def execAdcZp (b : Byte) (s : State) : Result := .next (aluA adc (fetchOperand (.zp b) (s.advance 2)))

/-- `ADC $FF,X`, $75 (R120, R88). -/
def execAdcZpx (b : Byte) (s : State) : Result := .next (aluA adc (fetchOperand (.zpx b) (s.advance 2)))

/-- `ADC $FFFF`, $6D (R120, R90). -/
def execAdcAbs (w : Word) (s : State) : Result := .next (aluA adc (fetchOperand (.abs w) (s.advance 3)))

/-- `ADC $FFFF,X`, $7D (R120, R91). -/
def execAdcAbx (w : Word) (s : State) : Result := .next (aluA adc (fetchOperand (.abx w) (s.advance 3)))

/-- `ADC $FFFF,Y`, $79 (R120, R92). -/
def execAdcAby (w : Word) (s : State) : Result := .next (aluA adc (fetchOperand (.aby w) (s.advance 3)))

/-- `ADC ($FF,X)`, $61 (R120, R93). -/
def execAdcIzx (b : Byte) (s : State) : Result := .next (aluA adc (fetchOperand (.izx b) (s.advance 2)))

/-- `ADC ($FF),Y`, $71 (R120, R94). -/
def execAdcIzy (b : Byte) (s : State) : Result := .next (aluA adc (fetchOperand (.izy b) (s.advance 2)))

/-- `AND #$FF`, $29 (R122, R86). -/
def execAndImm (b : Byte) (s : State) : Result := .next (aluA andOp (immediate b (s.advance 2)))

/-- `AND $FF`, $25 (R122, R87). -/
def execAndZp (b : Byte) (s : State) : Result := .next (aluA andOp (fetchOperand (.zp b) (s.advance 2)))

/-- `AND $FF,X`, $35 (R122, R88). -/
def execAndZpx (b : Byte) (s : State) : Result := .next (aluA andOp (fetchOperand (.zpx b) (s.advance 2)))

/-- `AND $FFFF`, $2D (R122, R90). -/
def execAndAbs (w : Word) (s : State) : Result := .next (aluA andOp (fetchOperand (.abs w) (s.advance 3)))

/-- `AND $FFFF,X`, $3D (R122, R91). -/
def execAndAbx (w : Word) (s : State) : Result := .next (aluA andOp (fetchOperand (.abx w) (s.advance 3)))

/-- `AND $FFFF,Y`, $39 (R122, R92). -/
def execAndAby (w : Word) (s : State) : Result := .next (aluA andOp (fetchOperand (.aby w) (s.advance 3)))

/-- `AND ($FF,X)`, $21 (R122, R93). -/
def execAndIzx (b : Byte) (s : State) : Result := .next (aluA andOp (fetchOperand (.izx b) (s.advance 2)))

/-- `AND ($FF),Y`, $31 (R122, R94). -/
def execAndIzy (b : Byte) (s : State) : Result := .next (aluA andOp (fetchOperand (.izy b) (s.advance 2)))

/-- `BIT $FF`, $24 (R123, R87). -/
def execBitZp (b : Byte) (s : State) : Result :=
  .next (testFlags bitFlags State.a (fetchOperand (.zp b) (s.advance 2)))

/-- `BIT $FFFF`, $2C (R123, R90). -/
def execBitAbs (w : Word) (s : State) : Result :=
  .next (testFlags bitFlags State.a (fetchOperand (.abs w) (s.advance 3)))

/-- `CMP #$FF`, $C9 (R124, R86). -/
def execCmpImm (b : Byte) (s : State) : Result := .next (testFlags compareFlags State.a (immediate b (s.advance 2)))

/-- `CMP $FF`, $C5 (R124, R87). -/
def execCmpZp (b : Byte) (s : State) : Result :=
  .next (testFlags compareFlags State.a (fetchOperand (.zp b) (s.advance 2)))

/-- `CMP $FF,X`, $D5 (R124, R88). -/
def execCmpZpx (b : Byte) (s : State) : Result :=
  .next (testFlags compareFlags State.a (fetchOperand (.zpx b) (s.advance 2)))

/-- `CMP $FFFF`, $CD (R124, R90). -/
def execCmpAbs (w : Word) (s : State) : Result :=
  .next (testFlags compareFlags State.a (fetchOperand (.abs w) (s.advance 3)))

/-- `CMP $FFFF,X`, $DD (R124, R91). -/
def execCmpAbx (w : Word) (s : State) : Result :=
  .next (testFlags compareFlags State.a (fetchOperand (.abx w) (s.advance 3)))

/-- `CMP $FFFF,Y`, $D9 (R124, R92). -/
def execCmpAby (w : Word) (s : State) : Result :=
  .next (testFlags compareFlags State.a (fetchOperand (.aby w) (s.advance 3)))

/-- `CMP ($FF,X)`, $C1 (R124, R93). -/
def execCmpIzx (b : Byte) (s : State) : Result :=
  .next (testFlags compareFlags State.a (fetchOperand (.izx b) (s.advance 2)))

/-- `CMP ($FF),Y`, $D1 (R124, R94). -/
def execCmpIzy (b : Byte) (s : State) : Result :=
  .next (testFlags compareFlags State.a (fetchOperand (.izy b) (s.advance 2)))

/-- `CPX #$FF`, $E0 (R125, R86). -/
def execCpxImm (b : Byte) (s : State) : Result := .next (testFlags compareFlags State.x (immediate b (s.advance 2)))

/-- `CPX $FF`, $E4 (R125, R87). -/
def execCpxZp (b : Byte) (s : State) : Result :=
  .next (testFlags compareFlags State.x (fetchOperand (.zp b) (s.advance 2)))

/-- `CPX $FFFF`, $EC (R125, R90). -/
def execCpxAbs (w : Word) (s : State) : Result :=
  .next (testFlags compareFlags State.x (fetchOperand (.abs w) (s.advance 3)))

/-- `CPY #$FF`, $C0 (R126, R86). -/
def execCpyImm (b : Byte) (s : State) : Result := .next (testFlags compareFlags State.y (immediate b (s.advance 2)))

/-- `CPY $FF`, $C4 (R126, R87). -/
def execCpyZp (b : Byte) (s : State) : Result :=
  .next (testFlags compareFlags State.y (fetchOperand (.zp b) (s.advance 2)))

/-- `CPY $FFFF`, $CC (R126, R90). -/
def execCpyAbs (w : Word) (s : State) : Result :=
  .next (testFlags compareFlags State.y (fetchOperand (.abs w) (s.advance 3)))

/-- `EOR #$FF`, $49 (R127, R86). -/
def execEorImm (b : Byte) (s : State) : Result := .next (aluA eorOp (immediate b (s.advance 2)))

/-- `EOR $FF`, $45 (R127, R87). -/
def execEorZp (b : Byte) (s : State) : Result := .next (aluA eorOp (fetchOperand (.zp b) (s.advance 2)))

/-- `EOR $FF,X`, $55 (R127, R88). -/
def execEorZpx (b : Byte) (s : State) : Result := .next (aluA eorOp (fetchOperand (.zpx b) (s.advance 2)))

/-- `EOR $FFFF`, $4D (R127, R90). -/
def execEorAbs (w : Word) (s : State) : Result := .next (aluA eorOp (fetchOperand (.abs w) (s.advance 3)))

/-- `EOR $FFFF,X`, $5D (R127, R91). -/
def execEorAbx (w : Word) (s : State) : Result := .next (aluA eorOp (fetchOperand (.abx w) (s.advance 3)))

/-- `EOR $FFFF,Y`, $59 (R127, R92). -/
def execEorAby (w : Word) (s : State) : Result := .next (aluA eorOp (fetchOperand (.aby w) (s.advance 3)))

/-- `EOR ($FF,X)`, $41 (R127, R93). -/
def execEorIzx (b : Byte) (s : State) : Result := .next (aluA eorOp (fetchOperand (.izx b) (s.advance 2)))

/-- `EOR ($FF),Y`, $51 (R127, R94). -/
def execEorIzy (b : Byte) (s : State) : Result := .next (aluA eorOp (fetchOperand (.izy b) (s.advance 2)))

/-- `ORA #$FF`, $09 (R128, R86). -/
def execOraImm (b : Byte) (s : State) : Result := .next (aluA oraOp (immediate b (s.advance 2)))

/-- `ORA $FF`, $05 (R128, R87). -/
def execOraZp (b : Byte) (s : State) : Result := .next (aluA oraOp (fetchOperand (.zp b) (s.advance 2)))

/-- `ORA $FF,X`, $15 (R128, R88). -/
def execOraZpx (b : Byte) (s : State) : Result := .next (aluA oraOp (fetchOperand (.zpx b) (s.advance 2)))

/-- `ORA $FFFF`, $0D (R128, R90). -/
def execOraAbs (w : Word) (s : State) : Result := .next (aluA oraOp (fetchOperand (.abs w) (s.advance 3)))

/-- `ORA $FFFF,X`, $1D (R128, R91). -/
def execOraAbx (w : Word) (s : State) : Result := .next (aluA oraOp (fetchOperand (.abx w) (s.advance 3)))

/-- `ORA $FFFF,Y`, $19 (R128, R92). -/
def execOraAby (w : Word) (s : State) : Result := .next (aluA oraOp (fetchOperand (.aby w) (s.advance 3)))

/-- `ORA ($FF,X)`, $01 (R128, R93). -/
def execOraIzx (b : Byte) (s : State) : Result := .next (aluA oraOp (fetchOperand (.izx b) (s.advance 2)))

/-- `ORA ($FF),Y`, $11 (R128, R94). -/
def execOraIzy (b : Byte) (s : State) : Result := .next (aluA oraOp (fetchOperand (.izy b) (s.advance 2)))

/-- `SBC #$FF`, $E9 (R129, R86). -/
def execSbcImm (b : Byte) (s : State) : Result := .next (aluA sbc (immediate b (s.advance 2)))

/-- `SBC $FF`, $E5 (R129, R87). -/
def execSbcZp (b : Byte) (s : State) : Result := .next (aluA sbc (fetchOperand (.zp b) (s.advance 2)))

/-- `SBC $FF,X`, $F5 (R129, R88). -/
def execSbcZpx (b : Byte) (s : State) : Result := .next (aluA sbc (fetchOperand (.zpx b) (s.advance 2)))

/-- `SBC $FFFF`, $ED (R129, R90). -/
def execSbcAbs (w : Word) (s : State) : Result := .next (aluA sbc (fetchOperand (.abs w) (s.advance 3)))

/-- `SBC $FFFF,X`, $FD (R129, R91). -/
def execSbcAbx (w : Word) (s : State) : Result := .next (aluA sbc (fetchOperand (.abx w) (s.advance 3)))

/-- `SBC $FFFF,Y`, $F9 (R129, R92). -/
def execSbcAby (w : Word) (s : State) : Result := .next (aluA sbc (fetchOperand (.aby w) (s.advance 3)))

/-- `SBC ($FF,X)`, $E1 (R129, R93). -/
def execSbcIzx (b : Byte) (s : State) : Result := .next (aluA sbc (fetchOperand (.izx b) (s.advance 2)))

/-- `SBC ($FF),Y`, $F1 (R129, R94). -/
def execSbcIzy (b : Byte) (s : State) : Result := .next (aluA sbc (fetchOperand (.izy b) (s.advance 2)))

/-- `SBC #$FF`, $EB, illegal (R131, R86). -/
def execSbcImmEB (b : Byte) (s : State) : Result := .next (aluA sbc (immediate b (s.advance 2)))

end Sys2Proof.Machine
end

