-- ==== Sys2Proof/Machine/Branch.lean ====
section
/-! DEFINITION. The conditional branches (42_branches.md R150 to R158).
Every meaning starts from the state with PC at the opcode, and moves PC past the instruction first (30_encoding.md
R98). Log entry 31. -/

namespace Sys2Proof.Machine

open Sys2Proof

/-- `BCC $FFFF`, $90 (R151, R96). -/
def execBcc (d : Int) (s : State) : Result := .next (branchIf (!s.p.c) d (s.advance 2))

/-- `BCS $FFFF`, $B0 (R152, R96). -/
def execBcs (d : Int) (s : State) : Result := .next (branchIf s.p.c d (s.advance 2))

/-- `BEQ $FFFF`, $F0 (R153, R96). -/
def execBeq (d : Int) (s : State) : Result := .next (branchIf s.p.z d (s.advance 2))

/-- `BMI $FFFF`, $30 (R154, R96). -/
def execBmi (d : Int) (s : State) : Result := .next (branchIf s.p.n d (s.advance 2))

/-- `BNE $FFFF`, $D0 (R155, R96). -/
def execBne (d : Int) (s : State) : Result := .next (branchIf (!s.p.z) d (s.advance 2))

/-- `BPL $FFFF`, $10 (R156, R96). -/
def execBpl (d : Int) (s : State) : Result := .next (branchIf (!s.p.n) d (s.advance 2))

/-- `BVC $FFFF`, $50 (R157, R96). -/
def execBvc (d : Int) (s : State) : Result := .next (branchIf (!s.p.v) d (s.advance 2))

/-- `BVS $FFFF`, $70 (R158, R96). -/
def execBvs (d : Int) (s : State) : Result := .next (branchIf s.p.v d (s.advance 2))

end Sys2Proof.Machine
end

