-- ==== Sys2Proof/Machine/BrkRtiNop.lean ====
section
/-! DEFINITION. BRK, RTI, NOP and the 27 illegal NOP encodings (43_brk_rti_nop.md R160 to R163).
Every meaning starts from the state with PC at the opcode, and moves PC past the instruction first (30_encoding.md
R98). Log entry 31. -/

namespace Sys2Proof.Machine

open Sys2Proof

/-- The D column of BRK's flag row (R160; 90_conflicts.md C6): cleared where BRK_D = clear, kept where BRK_D = keep. -/
def clearDOnBrk (s : State) : State :=
  match s.params.brkD with
  | .clear => s.setP { s.p with d := false }
  | .keep => s

/-- `BRK`, $00 (R160, R84). -/
def execBrk (s : State) : Result := .next (clearDOnBrk (s.enter (s.pc + 2) true irqVector))

/-- `RTI`, $40 (R161, R84). -/
def execRti (s : State) : Result := .next (s.advance 1).leave

/-- `NOP`, $EA (R162, R84). -/
def execNop (s : State) : Result := .next (s.advance 1)

/-- `NOP`, $1A, illegal (R163, R84). -/
def execNopImp1A (s : State) : Result := .next (s.advance 1)

/-- `NOP`, $3A, illegal (R163, R84). -/
def execNopImp3A (s : State) : Result := .next (s.advance 1)

/-- `NOP`, $5A, illegal (R163, R84). -/
def execNopImp5A (s : State) : Result := .next (s.advance 1)

/-- `NOP`, $7A, illegal (R163, R84). -/
def execNopImp7A (s : State) : Result := .next (s.advance 1)

/-- `NOP`, $DA, illegal (R163, R84). -/
def execNopImpDA (s : State) : Result := .next (s.advance 1)

/-- `NOP`, $FA, illegal (R163, R84). -/
def execNopImpFA (s : State) : Result := .next (s.advance 1)

/-- `NOP #$FF`, $80, illegal (R163, R86). -/
def execNopImm80 (b : Byte) (s : State) : Result := .next (immediate b (s.advance 2)).2

/-- `NOP #$FF`, $82, illegal (R163, R86). -/
def execNopImm82 (b : Byte) (s : State) : Result := .next (immediate b (s.advance 2)).2

/-- `NOP #$FF`, $89, illegal (R163, R86). -/
def execNopImm89 (b : Byte) (s : State) : Result := .next (immediate b (s.advance 2)).2

/-- `NOP #$FF`, $C2, illegal (R163, R86). -/
def execNopImmC2 (b : Byte) (s : State) : Result := .next (immediate b (s.advance 2)).2

/-- `NOP #$FF`, $E2, illegal (R163, R86). -/
def execNopImmE2 (b : Byte) (s : State) : Result := .next (immediate b (s.advance 2)).2

/-- `NOP $FF`, $04, illegal (R163, R87). -/
def execNopZp04 (b : Byte) (s : State) : Result := .next (fetchOperand (.zp b) (s.advance 2)).2

/-- `NOP $FF`, $44, illegal (R163, R87). -/
def execNopZp44 (b : Byte) (s : State) : Result := .next (fetchOperand (.zp b) (s.advance 2)).2

/-- `NOP $FF`, $64, illegal (R163, R87). -/
def execNopZp64 (b : Byte) (s : State) : Result := .next (fetchOperand (.zp b) (s.advance 2)).2

/-- `NOP $FF,X`, $14, illegal (R163, R88). -/
def execNopZpx14 (b : Byte) (s : State) : Result := .next (fetchOperand (.zpx b) (s.advance 2)).2

/-- `NOP $FF,X`, $34, illegal (R163, R88). -/
def execNopZpx34 (b : Byte) (s : State) : Result := .next (fetchOperand (.zpx b) (s.advance 2)).2

/-- `NOP $FF,X`, $54, illegal (R163, R88). -/
def execNopZpx54 (b : Byte) (s : State) : Result := .next (fetchOperand (.zpx b) (s.advance 2)).2

/-- `NOP $FF,X`, $74, illegal (R163, R88). -/
def execNopZpx74 (b : Byte) (s : State) : Result := .next (fetchOperand (.zpx b) (s.advance 2)).2

/-- `NOP $FF,X`, $D4, illegal (R163, R88). -/
def execNopZpxD4 (b : Byte) (s : State) : Result := .next (fetchOperand (.zpx b) (s.advance 2)).2

/-- `NOP $FF,X`, $F4, illegal (R163, R88). -/
def execNopZpxF4 (b : Byte) (s : State) : Result := .next (fetchOperand (.zpx b) (s.advance 2)).2

/-- `NOP $FFFF`, $0C, illegal (R163, R90). -/
def execNopAbs0C (w : Word) (s : State) : Result := .next (fetchOperand (.abs w) (s.advance 3)).2

/-- `NOP $FFFF,X`, $1C, illegal (R163, R91). -/
def execNopAbx1C (w : Word) (s : State) : Result := .next (fetchOperand (.abx w) (s.advance 3)).2

/-- `NOP $FFFF,X`, $3C, illegal (R163, R91). -/
def execNopAbx3C (w : Word) (s : State) : Result := .next (fetchOperand (.abx w) (s.advance 3)).2

/-- `NOP $FFFF,X`, $5C, illegal (R163, R91). -/
def execNopAbx5C (w : Word) (s : State) : Result := .next (fetchOperand (.abx w) (s.advance 3)).2

/-- `NOP $FFFF,X`, $7C, illegal (R163, R91). -/
def execNopAbx7C (w : Word) (s : State) : Result := .next (fetchOperand (.abx w) (s.advance 3)).2

/-- `NOP $FFFF,X`, $DC, illegal (R163, R91). -/
def execNopAbxDC (w : Word) (s : State) : Result := .next (fetchOperand (.abx w) (s.advance 3)).2

/-- `NOP $FFFF,X`, $FC, illegal (R163, R91). -/
def execNopAbxFC (w : Word) (s : State) : Result := .next (fetchOperand (.abx w) (s.advance 3)).2

end Sys2Proof.Machine
end

