-- ==== Sys2Proof/Machine/FlagOps.lean ====
section
/-! DEFINITION. The flag set and clear instructions (44_flag_ops.md R170 to R176).
Every meaning starts from the state with PC at the opcode, and moves PC past the instruction first (30_encoding.md
R98). Log entry 31. -/

namespace Sys2Proof.Machine

open Sys2Proof

/-- `CLC`, $18 (R170, R84). -/
def execClc (s : State) : Result := .next ((s.advance 1).setP { s.p with c := false })

/-- `CLD`, $D8 (R171, R84). -/
def execCld (s : State) : Result := .next ((s.advance 1).setP { s.p with d := false })

/-- `CLI`, $58 (R172, R84). -/
def execCli (s : State) : Result := .next (((s.advance 1).setI false).noteIChange s.p.i)

/-- `CLV`, $B8 (R173, R84). -/
def execClv (s : State) : Result := .next ((s.advance 1).setP { s.p with v := false })

/-- `SEC`, $38 (R174, R84). -/
def execSec (s : State) : Result := .next ((s.advance 1).setP { s.p with c := true })

/-- `SED`, $F8 (R175, R84). -/
def execSed (s : State) : Result := .next ((s.advance 1).setP { s.p with d := true })

/-- `SEI`, $78 (R176, R84). -/
def execSei (s : State) : Result := .next (((s.advance 1).setI true).noteIChange s.p.i)

end Sys2Proof.Machine
end

