-- ==== Sys2Proof/Machine/IncDec.lean ====
section
/-! DEFINITION. The increment and decrement instructions (45_inc_dec.md R180 to R185).
Every meaning starts from the state with PC at the opcode, and moves PC past the instruction first (30_encoding.md
R98). Log entry 31. -/

namespace Sys2Proof.Machine

open Sys2Proof

/-- `DEC $FF`, $C6 (R180, R87). -/
def execDecZp (b : Byte) (s : State) : Result := .next (modifyMem (.zp b) decOp (s.advance 2))

/-- `DEC $FF,X`, $D6 (R180, R88). -/
def execDecZpx (b : Byte) (s : State) : Result := .next (modifyMem (.zpx b) decOp (s.advance 2))

/-- `DEC $FFFF`, $CE (R180, R90). -/
def execDecAbs (w : Word) (s : State) : Result := .next (modifyMem (.abs w) decOp (s.advance 3))

/-- `DEC $FFFF,X`, $DE (R180, R91). -/
def execDecAbx (w : Word) (s : State) : Result := .next (modifyMem (.abx w) decOp (s.advance 3))

/-- `DEX`, $CA (R181, R84). -/
def execDex (s : State) : Result := .next (modifyReg State.setX State.x decOp (s.advance 1))

/-- `DEY`, $88 (R182, R84). -/
def execDey (s : State) : Result := .next (modifyReg State.setY State.y decOp (s.advance 1))

/-- `INC $FF`, $E6 (R183, R87). -/
def execIncZp (b : Byte) (s : State) : Result := .next (modifyMem (.zp b) incOp (s.advance 2))

/-- `INC $FF,X`, $F6 (R183, R88). -/
def execIncZpx (b : Byte) (s : State) : Result := .next (modifyMem (.zpx b) incOp (s.advance 2))

/-- `INC $FFFF`, $EE (R183, R90). -/
def execIncAbs (w : Word) (s : State) : Result := .next (modifyMem (.abs w) incOp (s.advance 3))

/-- `INC $FFFF,X`, $FE (R183, R91). -/
def execIncAbx (w : Word) (s : State) : Result := .next (modifyMem (.abx w) incOp (s.advance 3))

/-- `INX`, $E8 (R184, R84). -/
def execInx (s : State) : Result := .next (modifyReg State.setX State.x incOp (s.advance 1))

/-- `INY`, $C8 (R185, R84). -/
def execIny (s : State) : Result := .next (modifyReg State.setY State.y incOp (s.advance 1))

end Sys2Proof.Machine
end

