-- ==== Sys2Proof/Machine/Jump.lean ====
section
/-! DEFINITION. The jump and subroutine instructions (46_jump_subroutine.md R190 to R193).
Every meaning starts from the state with PC at the opcode, and moves PC past the instruction first (30_encoding.md
R98). Log entry 31. -/

namespace Sys2Proof.Machine

open Sys2Proof

/-- JSR after its low operand byte is fetched, `s.pc` past the instruction's three bytes (R192): push the address of
its last byte, and only then read that byte, the high half of the target. Log entry 19. -/
def callSubroutine (w : Word) (s : State) : State :=
  let hi := (s.pushWord (s.pc - 1)).load (s.pc - 1)
  hi.2.setPc (wordOf (loByte w) hi.1)

/-- RTS (R193): the pulled address plus one. -/
def returnFromSubroutine (s : State) : State :=
  let r := s.pullWord
  r.2.setPc (r.1 + 1)

/-- JMP (Abs.Indirect) (R191, 30_encoding.md R97). -/
def jumpIndirect (w : Word) (s : State) : State :=
  let r := s.loadIndirect w
  r.2.setPc r.1

/-- `JMP $FFFF`, $4C (R190, R90). -/
def execJmpAbs (w : Word) (s : State) : Result := .next ((s.advance 3).setPc w)

/-- `JMP ($FFFF)`, $6C (R191, R97). -/
def execJmpInd (w : Word) (s : State) : Result := .next (jumpIndirect w (s.advance 3))

/-- `JSR $FFFF`, $20 (R192, R90). -/
def execJsr (w : Word) (s : State) : Result := .next (callSubroutine w (s.advance 3))

/-- `RTS`, $60 (R193, R84). -/
def execRts (s : State) : Result := .next (returnFromSubroutine (s.advance 1))

end Sys2Proof.Machine
end

