-- ==== Sys2Proof/Machine/LoadStore.lean ====
section
/-! DEFINITION. The load and store instructions (47_load_store.md R200 to R205).
Every meaning starts from the state with PC at the opcode, and moves PC past the instruction first (30_encoding.md
R98). Log entry 31. -/

namespace Sys2Proof.Machine

open Sys2Proof

/-- `LDA #$FF`, $A9 (R200, R86). -/
def execLdaImm (b : Byte) (s : State) : Result := .next (loadInto State.setA (immediate b (s.advance 2)))

/-- `LDA $FF`, $A5 (R200, R87). -/
def execLdaZp (b : Byte) (s : State) : Result := .next (loadInto State.setA (fetchOperand (.zp b) (s.advance 2)))

/-- `LDA $FF,X`, $B5 (R200, R88). -/
def execLdaZpx (b : Byte) (s : State) : Result := .next (loadInto State.setA (fetchOperand (.zpx b) (s.advance 2)))

/-- `LDA $FFFF`, $AD (R200, R90). -/
def execLdaAbs (w : Word) (s : State) : Result := .next (loadInto State.setA (fetchOperand (.abs w) (s.advance 3)))

/-- `LDA $FFFF,X`, $BD (R200, R91). -/
def execLdaAbx (w : Word) (s : State) : Result := .next (loadInto State.setA (fetchOperand (.abx w) (s.advance 3)))

/-- `LDA $FFFF,Y`, $B9 (R200, R92). -/
def execLdaAby (w : Word) (s : State) : Result := .next (loadInto State.setA (fetchOperand (.aby w) (s.advance 3)))

/-- `LDA ($FF,X)`, $A1 (R200, R93). -/
def execLdaIzx (b : Byte) (s : State) : Result := .next (loadInto State.setA (fetchOperand (.izx b) (s.advance 2)))

/-- `LDA ($FF),Y`, $B1 (R200, R94). -/
def execLdaIzy (b : Byte) (s : State) : Result := .next (loadInto State.setA (fetchOperand (.izy b) (s.advance 2)))

/-- `LDX #$FF`, $A2 (R201, R86). -/
def execLdxImm (b : Byte) (s : State) : Result := .next (loadInto State.setX (immediate b (s.advance 2)))

/-- `LDX $FF`, $A6 (R201, R87). -/
def execLdxZp (b : Byte) (s : State) : Result := .next (loadInto State.setX (fetchOperand (.zp b) (s.advance 2)))

/-- `LDX $FF,Y`, $B6 (R201, R89). -/
def execLdxZpy (b : Byte) (s : State) : Result := .next (loadInto State.setX (fetchOperand (.zpy b) (s.advance 2)))

/-- `LDX $FFFF`, $AE (R201, R90). -/
def execLdxAbs (w : Word) (s : State) : Result := .next (loadInto State.setX (fetchOperand (.abs w) (s.advance 3)))

/-- `LDX $FFFF,Y`, $BE (R201, R92). -/
def execLdxAby (w : Word) (s : State) : Result := .next (loadInto State.setX (fetchOperand (.aby w) (s.advance 3)))

/-- `LDY #$FF`, $A0 (R202, R86). -/
def execLdyImm (b : Byte) (s : State) : Result := .next (loadInto State.setY (immediate b (s.advance 2)))

/-- `LDY $FF`, $A4 (R202, R87). -/
def execLdyZp (b : Byte) (s : State) : Result := .next (loadInto State.setY (fetchOperand (.zp b) (s.advance 2)))

/-- `LDY $FF,X`, $B4 (R202, R88). -/
def execLdyZpx (b : Byte) (s : State) : Result := .next (loadInto State.setY (fetchOperand (.zpx b) (s.advance 2)))

/-- `LDY $FFFF`, $AC (R202, R90). -/
def execLdyAbs (w : Word) (s : State) : Result := .next (loadInto State.setY (fetchOperand (.abs w) (s.advance 3)))

/-- `LDY $FFFF,X`, $BC (R202, R91). -/
def execLdyAbx (w : Word) (s : State) : Result := .next (loadInto State.setY (fetchOperand (.abx w) (s.advance 3)))

/-- `STA $FF`, $85 (R203, R87). -/
def execStaZp (b : Byte) (s : State) : Result := .next (storeFrom (.zp b) State.a (s.advance 2))

/-- `STA $FF,X`, $95 (R203, R88). -/
def execStaZpx (b : Byte) (s : State) : Result := .next (storeFrom (.zpx b) State.a (s.advance 2))

/-- `STA $FFFF`, $8D (R203, R90). -/
def execStaAbs (w : Word) (s : State) : Result := .next (storeFrom (.abs w) State.a (s.advance 3))

/-- `STA $FFFF,X`, $9D (R203, R91). -/
def execStaAbx (w : Word) (s : State) : Result := .next (storeFrom (.abx w) State.a (s.advance 3))

/-- `STA $FFFF,Y`, $99 (R203, R92). -/
def execStaAby (w : Word) (s : State) : Result := .next (storeFrom (.aby w) State.a (s.advance 3))

/-- `STA ($FF,X)`, $81 (R203, R93). -/
def execStaIzx (b : Byte) (s : State) : Result := .next (storeFrom (.izx b) State.a (s.advance 2))

/-- `STA ($FF),Y`, $91 (R203, R94). -/
def execStaIzy (b : Byte) (s : State) : Result := .next (storeFrom (.izy b) State.a (s.advance 2))

/-- `STX $FF`, $86 (R204, R87). -/
def execStxZp (b : Byte) (s : State) : Result := .next (storeFrom (.zp b) State.x (s.advance 2))

/-- `STX $FF,Y`, $96 (R204, R89). -/
def execStxZpy (b : Byte) (s : State) : Result := .next (storeFrom (.zpy b) State.x (s.advance 2))

/-- `STX $FFFF`, $8E (R204, R90). -/
def execStxAbs (w : Word) (s : State) : Result := .next (storeFrom (.abs w) State.x (s.advance 3))

/-- `STY $FF`, $84 (R205, R87). -/
def execStyZp (b : Byte) (s : State) : Result := .next (storeFrom (.zp b) State.y (s.advance 2))

/-- `STY $FF,X`, $94 (R205, R88). -/
def execStyZpx (b : Byte) (s : State) : Result := .next (storeFrom (.zpx b) State.y (s.advance 2))

/-- `STY $FFFF`, $8C (R205, R90). -/
def execStyAbs (w : Word) (s : State) : Result := .next (storeFrom (.abs w) State.y (s.advance 3))

end Sys2Proof.Machine
end

