-- ==== Sys2Proof/Machine/Shift.lean ====
section
/-! DEFINITION. The shift and rotate instructions (41_shift_rotate.md R140 to R144): ASL, LSR, ROL, ROR.
Every meaning starts from the state with PC at the opcode, and moves PC past the instruction first (30_encoding.md
R98). Log entry 31. -/

namespace Sys2Proof.Machine

open Sys2Proof

/-- `ASL A`, $0A (R141, R85). -/
def execAslAcc (s : State) : Result := .next (modifyReg State.setA State.a aslOp (s.advance 1))

/-- `ASL $FF`, $06 (R141, R87). -/
def execAslZp (b : Byte) (s : State) : Result := .next (modifyMem (.zp b) aslOp (s.advance 2))

/-- `ASL $FF,X`, $16 (R141, R88). -/
def execAslZpx (b : Byte) (s : State) : Result := .next (modifyMem (.zpx b) aslOp (s.advance 2))

/-- `ASL $FFFF`, $0E (R141, R90). -/
def execAslAbs (w : Word) (s : State) : Result := .next (modifyMem (.abs w) aslOp (s.advance 3))

/-- `ASL $FFFF,X`, $1E (R141, R91). -/
def execAslAbx (w : Word) (s : State) : Result := .next (modifyMem (.abx w) aslOp (s.advance 3))

/-- `LSR A`, $4A (R142, R85). -/
def execLsrAcc (s : State) : Result := .next (modifyReg State.setA State.a lsrOp (s.advance 1))

/-- `LSR $FF`, $46 (R142, R87). -/
def execLsrZp (b : Byte) (s : State) : Result := .next (modifyMem (.zp b) lsrOp (s.advance 2))

/-- `LSR $FF,X`, $56 (R142, R88). -/
def execLsrZpx (b : Byte) (s : State) : Result := .next (modifyMem (.zpx b) lsrOp (s.advance 2))

/-- `LSR $FFFF`, $4E (R142, R90). -/
def execLsrAbs (w : Word) (s : State) : Result := .next (modifyMem (.abs w) lsrOp (s.advance 3))

/-- `LSR $FFFF,X`, $5E (R142, R91). -/
def execLsrAbx (w : Word) (s : State) : Result := .next (modifyMem (.abx w) lsrOp (s.advance 3))

/-- `ROL A`, $2A (R143, R85). -/
def execRolAcc (s : State) : Result := .next (modifyReg State.setA State.a rolOp (s.advance 1))

/-- `ROL $FF`, $26 (R143, R87). -/
def execRolZp (b : Byte) (s : State) : Result := .next (modifyMem (.zp b) rolOp (s.advance 2))

/-- `ROL $FF,X`, $36 (R143, R88). -/
def execRolZpx (b : Byte) (s : State) : Result := .next (modifyMem (.zpx b) rolOp (s.advance 2))

/-- `ROL $FFFF`, $2E (R143, R90). -/
def execRolAbs (w : Word) (s : State) : Result := .next (modifyMem (.abs w) rolOp (s.advance 3))

/-- `ROL $FFFF,X`, $3E (R143, R91). -/
def execRolAbx (w : Word) (s : State) : Result := .next (modifyMem (.abx w) rolOp (s.advance 3))

/-- `ROR A`, $6A (R144, R85). -/
def execRorAcc (s : State) : Result := .next (modifyReg State.setA State.a rorOp (s.advance 1))

/-- `ROR $FF`, $66 (R144, R87). -/
def execRorZp (b : Byte) (s : State) : Result := .next (modifyMem (.zp b) rorOp (s.advance 2))

/-- `ROR $FF,X`, $76 (R144, R88). -/
def execRorZpx (b : Byte) (s : State) : Result := .next (modifyMem (.zpx b) rorOp (s.advance 2))

/-- `ROR $FFFF`, $6E (R144, R90). -/
def execRorAbs (w : Word) (s : State) : Result := .next (modifyMem (.abs w) rorOp (s.advance 3))

/-- `ROR $FFFF,X`, $7E (R144, R91). -/
def execRorAbx (w : Word) (s : State) : Result := .next (modifyMem (.abx w) rorOp (s.advance 3))

end Sys2Proof.Machine
end

