-- ==== Sys2Proof/Machine/Stack.lean ====
section
/-! DEFINITION. The stack instructions (48_stack.md R210 to R213).
Every meaning starts from the state with PC at the opcode, and moves PC past the instruction first (30_encoding.md
R98). Log entry 31. -/

namespace Sys2Proof.Machine

open Sys2Proof

/-- PLP (R213): all six flags from the pulled byte, and the note that I may have changed. -/
def pullStatus (s : State) : State :=
  let r := s.pull
  (r.2.setP (Flags.unpack r.1)).noteIChange s.p.i

/-- `PHA`, $48 (R210, R84). -/
def execPha (s : State) : Result := .next ((s.advance 1).push s.a)

/-- `PHP`, $08 (R211, R84). -/
def execPhp (s : State) : Result := .next ((s.advance 1).push (s.p.pack true))

/-- `PLA`, $68 (R212, R84). -/
def execPla (s : State) : Result := .next (loadInto State.setA (s.advance 1).pull)

/-- `PLP`, $28 (R213, R84). -/
def execPlp (s : State) : Result := .next (pullStatus (s.advance 1))

end Sys2Proof.Machine
end

