-- ==== Sys2Proof/Machine/Transfer.lean ====
section
/-! DEFINITION. The register transfers (49_transfer.md R220 to R225).
Every meaning starts from the state with PC at the opcode, and moves PC past the instruction first (30_encoding.md
R98). Log entry 31. -/

namespace Sys2Proof.Machine

open Sys2Proof

/-- `TAX`, $AA (R220, R84). -/
def execTax (s : State) : Result := .next (transfer State.setX State.a (s.advance 1))

/-- `TAY`, $A8 (R221, R84). -/
def execTay (s : State) : Result := .next (transfer State.setY State.a (s.advance 1))

/-- `TSX`, $BA (R222, R84). -/
def execTsx (s : State) : Result := .next (transfer State.setX State.sp (s.advance 1))

/-- `TXA`, $8A (R223, R84). -/
def execTxa (s : State) : Result := .next (transfer State.setA State.x (s.advance 1))

/-- `TXS`, $9A (R224, R84). -/
def execTxs (s : State) : Result := .next ((s.advance 1).setSp s.x)

/-- `TYA`, $98 (R225, R84). -/
def execTya (s : State) : Result := .next (transfer State.setA State.y (s.advance 1))

end Sys2Proof.Machine
end

