-- ==== Sys2Proof/WellFormed.lean ====
section
/-! DEFINITION. Which instructions have an encoding. Every operand byte has its width in its type (R83), so the
one check left is the range of a relative displacement. -/

namespace Sys2Proof

/-- A relative displacement is -128 to 127 (30_encoding.md R83 d, R96). -/
def dispOk (d : Int) : Bool := decide (-128 ≤ d) && decide (d ≤ 127)

/-- The check on a format's operand. -/
def Mode.wf : Mode → Bool
  | .rel d => dispOk d
  | .imp | .stk | .acc | .imm _ | .mem _ | .ind _ => true

/-- An instruction that some bytes encode. -/
def Instr.wf (i : Instr) : Bool := i.mode.wf

end Sys2Proof
end

