-- ==== Sys2Proof/Decode.lean ====
section
/-! DEFINITION. The decoder, total on any bytes and rejecting by name, and after it the encoder, both written
from the opcode map of 30_encoding.md R100 and the operand assembly of R83. -/

namespace Sys2Proof

/-- Why bytes are no instruction. -/
inductive Reject where
  /-- The first byte is one of the 77 opcodes in no 6510 table (R107). Safe: no meaning is invented. -/
  | unlistedOpcode (op : Byte)
  /-- The bytes end before the instruction does. -/
  | truncated
  deriving DecidableEq, Repr

/-- What the opcode byte selects: the instruction, still waiting for its operand bytes (R80, R81). -/
inductive Shape where
  | bare (i : Instr)
  | byte (f : Byte → Instr)
  | disp (f : Int → Instr)
  | word (f : Word → Instr)

/-- How many operand bytes follow the opcode (R81). -/
def Shape.operandBytes : Shape → Nat
  | .bare _ => 0
  | .byte _ | .disp _ => 1
  | .word _ => 2

/-- Operand assembly (R83): `b1` as it is, or as a signed displacement, or `b1 + 256 * b2`. -/
def Shape.build (sh : Shape) (b1 b2 : Byte) : Instr :=
  match sh with
  | .bare i => i
  | .byte f => f b1
  | .disp f => f b1.toInt
  | .word f => f (wordOf b1 b2)

/-- Row x of the opcode map of R100: the listed opcodes whose high hexadecimal digit is the argument. -/
def opcodeRow : Nat → List (Byte × Shape)
  | 0 => [(0x00, .bare .brk), (0x01, .byte .oraIzx), (0x04, .byte .nopZp04), (0x05, .byte .oraZp),
      (0x06, .byte .aslZp), (0x08, .bare .php), (0x09, .byte .oraImm), (0x0A, .bare .aslAcc),
      (0x0C, .word .nopAbs0C), (0x0D, .word .oraAbs), (0x0E, .word .aslAbs)]
  | 1 => [(0x10, .disp .bpl), (0x11, .byte .oraIzy), (0x14, .byte .nopZpx14), (0x15, .byte .oraZpx),
      (0x16, .byte .aslZpx), (0x18, .bare .clc), (0x19, .word .oraAby), (0x1A, .bare .nopImp1A),
      (0x1C, .word .nopAbx1C), (0x1D, .word .oraAbx), (0x1E, .word .aslAbx)]
  | 2 => [(0x20, .word .jsr), (0x21, .byte .andIzx), (0x24, .byte .bitZp), (0x25, .byte .andZp),
      (0x26, .byte .rolZp), (0x28, .bare .plp), (0x29, .byte .andImm), (0x2A, .bare .rolAcc),
      (0x2C, .word .bitAbs), (0x2D, .word .andAbs), (0x2E, .word .rolAbs)]
  | 3 => [(0x30, .disp .bmi), (0x31, .byte .andIzy), (0x34, .byte .nopZpx34), (0x35, .byte .andZpx),
      (0x36, .byte .rolZpx), (0x38, .bare .sec), (0x39, .word .andAby), (0x3A, .bare .nopImp3A),
      (0x3C, .word .nopAbx3C), (0x3D, .word .andAbx), (0x3E, .word .rolAbx)]
  | 4 => [(0x40, .bare .rti), (0x41, .byte .eorIzx), (0x44, .byte .nopZp44), (0x45, .byte .eorZp),
      (0x46, .byte .lsrZp), (0x48, .bare .pha), (0x49, .byte .eorImm), (0x4A, .bare .lsrAcc),
      (0x4C, .word .jmpAbs), (0x4D, .word .eorAbs), (0x4E, .word .lsrAbs)]
  | 5 => [(0x50, .disp .bvc), (0x51, .byte .eorIzy), (0x54, .byte .nopZpx54), (0x55, .byte .eorZpx),
      (0x56, .byte .lsrZpx), (0x58, .bare .cli), (0x59, .word .eorAby), (0x5A, .bare .nopImp5A),
      (0x5C, .word .nopAbx5C), (0x5D, .word .eorAbx), (0x5E, .word .lsrAbx)]
  | 6 => [(0x60, .bare .rts), (0x61, .byte .adcIzx), (0x64, .byte .nopZp64), (0x65, .byte .adcZp),
      (0x66, .byte .rorZp), (0x68, .bare .pla), (0x69, .byte .adcImm), (0x6A, .bare .rorAcc),
      (0x6C, .word .jmpInd), (0x6D, .word .adcAbs), (0x6E, .word .rorAbs)]
  | 7 => [(0x70, .disp .bvs), (0x71, .byte .adcIzy), (0x74, .byte .nopZpx74), (0x75, .byte .adcZpx),
      (0x76, .byte .rorZpx), (0x78, .bare .sei), (0x79, .word .adcAby), (0x7A, .bare .nopImp7A),
      (0x7C, .word .nopAbx7C), (0x7D, .word .adcAbx), (0x7E, .word .rorAbx)]
  | 8 => [(0x80, .byte .nopImm80), (0x81, .byte .staIzx), (0x82, .byte .nopImm82), (0x84, .byte .styZp),
      (0x85, .byte .staZp), (0x86, .byte .stxZp), (0x88, .bare .dey), (0x89, .byte .nopImm89),
      (0x8A, .bare .txa), (0x8C, .word .styAbs), (0x8D, .word .staAbs), (0x8E, .word .stxAbs)]
  | 9 => [(0x90, .disp .bcc), (0x91, .byte .staIzy), (0x94, .byte .styZpx), (0x95, .byte .staZpx),
      (0x96, .byte .stxZpy), (0x98, .bare .tya), (0x99, .word .staAby), (0x9A, .bare .txs),
      (0x9D, .word .staAbx)]
  | 10 => [(0xA0, .byte .ldyImm), (0xA1, .byte .ldaIzx), (0xA2, .byte .ldxImm), (0xA4, .byte .ldyZp),
      (0xA5, .byte .ldaZp), (0xA6, .byte .ldxZp), (0xA8, .bare .tay), (0xA9, .byte .ldaImm),
      (0xAA, .bare .tax), (0xAC, .word .ldyAbs), (0xAD, .word .ldaAbs), (0xAE, .word .ldxAbs)]
  | 11 => [(0xB0, .disp .bcs), (0xB1, .byte .ldaIzy), (0xB4, .byte .ldyZpx), (0xB5, .byte .ldaZpx),
      (0xB6, .byte .ldxZpy), (0xB8, .bare .clv), (0xB9, .word .ldaAby), (0xBA, .bare .tsx),
      (0xBC, .word .ldyAbx), (0xBD, .word .ldaAbx), (0xBE, .word .ldxAby)]
  | 12 => [(0xC0, .byte .cpyImm), (0xC1, .byte .cmpIzx), (0xC2, .byte .nopImmC2), (0xC4, .byte .cpyZp),
      (0xC5, .byte .cmpZp), (0xC6, .byte .decZp), (0xC8, .bare .iny), (0xC9, .byte .cmpImm),
      (0xCA, .bare .dex), (0xCC, .word .cpyAbs), (0xCD, .word .cmpAbs), (0xCE, .word .decAbs)]
  | 13 => [(0xD0, .disp .bne), (0xD1, .byte .cmpIzy), (0xD4, .byte .nopZpxD4), (0xD5, .byte .cmpZpx),
      (0xD6, .byte .decZpx), (0xD8, .bare .cld), (0xD9, .word .cmpAby), (0xDA, .bare .nopImpDA),
      (0xDC, .word .nopAbxDC), (0xDD, .word .cmpAbx), (0xDE, .word .decAbx)]
  | 14 => [(0xE0, .byte .cpxImm), (0xE1, .byte .sbcIzx), (0xE2, .byte .nopImmE2), (0xE4, .byte .cpxZp),
      (0xE5, .byte .sbcZp), (0xE6, .byte .incZp), (0xE8, .bare .inx), (0xE9, .byte .sbcImm),
      (0xEA, .bare .nop), (0xEB, .byte .sbcImmEB), (0xEC, .word .cpxAbs), (0xED, .word .sbcAbs),
      (0xEE, .word .incAbs)]
  | 15 => [(0xF0, .disp .beq), (0xF1, .byte .sbcIzy), (0xF4, .byte .nopZpxF4), (0xF5, .byte .sbcZpx),
      (0xF6, .byte .incZpx), (0xF8, .bare .sed), (0xF9, .word .sbcAby), (0xFA, .bare .nopImpFA),
      (0xFC, .word .nopAbxFC), (0xFD, .word .sbcAbx), (0xFE, .word .incAbx)]
  | _ => []

/-- The entry of one opcode in a row of the map. -/
def lookupOpcode : List (Byte × Shape) → Byte → Option Shape
  | [], _ => none
  | (k, sh) :: rest, op => if op = k then some sh else lookupOpcode rest op

/-- The opcode map: the opcode byte alone selects the instruction, its mode and its length (R80, R111). -/
def shapeOf (op : Byte) : Option Shape := lookupOpcode (opcodeRow (op.toNat / 16)) op

/-- The instruction whose first three bytes are these; `none` for the 77 unlisted opcodes (R107).
Bytes after the instruction's own are not looked at. -/
def decodeBytes (op b1 b2 : Byte) : Option Instr := (shapeOf op).map (·.build b1 b2)

/-- Read one instruction from the front of a byte list; the rest of the list comes back with it. -/
def decode : List Byte → Except Reject (Instr × List Byte)
  | [] => .error .truncated
  | op :: rest =>
    match shapeOf op with
    | none => .error (.unlistedOpcode op)
    | some sh =>
      match sh.operandBytes, rest with
      | 0, _ => .ok (sh.build 0 0, rest)
      | 1, b1 :: rest' => .ok (sh.build b1 0, rest')
      | 2, b1 :: b2 :: rest' => .ok (sh.build b1 b2, rest')
      | _, _ => .error .truncated

/-- The instruction read from the bits `w` of a table row of `nbits` bits: bit 0 is the least significant bit of
the first byte, the second byte is bits 15..8, and every bit above `nbits` is 0. -/
def decodeTableWord (nbits w : Nat) : Option Instr :=
  let v := w % 2 ^ nbits
  match decode [BitVec.ofNat 8 v, BitVec.ofNat 8 (v / 256), BitVec.ofNat 8 (v / 65536)] with
  | .ok (i, _) => some i
  | .error _ => none

/-- The opcode byte of each row (30_encoding.md R100, R102, R103, R104). -/
def Instr.opcode : Instr → Byte
  | .adcImm _ => 0x69
  | .adcZp _ => 0x65
  | .adcZpx _ => 0x75
  | .adcAbs _ => 0x6D
  | .adcAbx _ => 0x7D
  | .adcAby _ => 0x79
  | .adcIzx _ => 0x61
  | .adcIzy _ => 0x71
  | .andImm _ => 0x29
  | .andZp _ => 0x25
  | .andZpx _ => 0x35
  | .andAbs _ => 0x2D
  | .andAbx _ => 0x3D
  | .andAby _ => 0x39
  | .andIzx _ => 0x21
  | .andIzy _ => 0x31
  | .aslAcc => 0x0A
  | .aslZp _ => 0x06
  | .aslZpx _ => 0x16
  | .aslAbs _ => 0x0E
  | .aslAbx _ => 0x1E
  | .bcc _ => 0x90
  | .bcs _ => 0xB0
  | .beq _ => 0xF0
  | .bitZp _ => 0x24
  | .bitAbs _ => 0x2C
  | .bmi _ => 0x30
  | .bne _ => 0xD0
  | .bpl _ => 0x10
  | .brk => 0x00
  | .bvc _ => 0x50
  | .bvs _ => 0x70
  | .clc => 0x18
  | .cld => 0xD8
  | .cli => 0x58
  | .clv => 0xB8
  | .cmpImm _ => 0xC9
  | .cmpZp _ => 0xC5
  | .cmpZpx _ => 0xD5
  | .cmpAbs _ => 0xCD
  | .cmpAbx _ => 0xDD
  | .cmpAby _ => 0xD9
  | .cmpIzx _ => 0xC1
  | .cmpIzy _ => 0xD1
  | .cpxImm _ => 0xE0
  | .cpxZp _ => 0xE4
  | .cpxAbs _ => 0xEC
  | .cpyImm _ => 0xC0
  | .cpyZp _ => 0xC4
  | .cpyAbs _ => 0xCC
  | .decZp _ => 0xC6
  | .decZpx _ => 0xD6
  | .decAbs _ => 0xCE
  | .decAbx _ => 0xDE
  | .dex => 0xCA
  | .dey => 0x88
  | .eorImm _ => 0x49
  | .eorZp _ => 0x45
  | .eorZpx _ => 0x55
  | .eorAbs _ => 0x4D
  | .eorAbx _ => 0x5D
  | .eorAby _ => 0x59
  | .eorIzx _ => 0x41
  | .eorIzy _ => 0x51
  | .incZp _ => 0xE6
  | .incZpx _ => 0xF6
  | .incAbs _ => 0xEE
  | .incAbx _ => 0xFE
  | .inx => 0xE8
  | .iny => 0xC8
  | .jmpAbs _ => 0x4C
  | .jmpInd _ => 0x6C
  | .jsr _ => 0x20
  | .ldaImm _ => 0xA9
  | .ldaZp _ => 0xA5
  | .ldaZpx _ => 0xB5
  | .ldaAbs _ => 0xAD
  | .ldaAbx _ => 0xBD
  | .ldaAby _ => 0xB9
  | .ldaIzx _ => 0xA1
  | .ldaIzy _ => 0xB1
  | .ldxImm _ => 0xA2
  | .ldxZp _ => 0xA6
  | .ldxZpy _ => 0xB6
  | .ldxAbs _ => 0xAE
  | .ldxAby _ => 0xBE
  | .ldyImm _ => 0xA0
  | .ldyZp _ => 0xA4
  | .ldyZpx _ => 0xB4
  | .ldyAbs _ => 0xAC
  | .ldyAbx _ => 0xBC
  | .lsrAcc => 0x4A
  | .lsrZp _ => 0x46
  | .lsrZpx _ => 0x56
  | .lsrAbs _ => 0x4E
  | .lsrAbx _ => 0x5E
  | .nop => 0xEA
  | .nopImp1A => 0x1A
  | .nopImp3A => 0x3A
  | .nopImp5A => 0x5A
  | .nopImp7A => 0x7A
  | .nopImpDA => 0xDA
  | .nopImpFA => 0xFA
  | .nopImm80 _ => 0x80
  | .nopImm82 _ => 0x82
  | .nopImm89 _ => 0x89
  | .nopImmC2 _ => 0xC2
  | .nopImmE2 _ => 0xE2
  | .nopZp04 _ => 0x04
  | .nopZp44 _ => 0x44
  | .nopZp64 _ => 0x64
  | .nopZpx14 _ => 0x14
  | .nopZpx34 _ => 0x34
  | .nopZpx54 _ => 0x54
  | .nopZpx74 _ => 0x74
  | .nopZpxD4 _ => 0xD4
  | .nopZpxF4 _ => 0xF4
  | .nopAbs0C _ => 0x0C
  | .nopAbx1C _ => 0x1C
  | .nopAbx3C _ => 0x3C
  | .nopAbx5C _ => 0x5C
  | .nopAbx7C _ => 0x7C
  | .nopAbxDC _ => 0xDC
  | .nopAbxFC _ => 0xFC
  | .oraImm _ => 0x09
  | .oraZp _ => 0x05
  | .oraZpx _ => 0x15
  | .oraAbs _ => 0x0D
  | .oraAbx _ => 0x1D
  | .oraAby _ => 0x19
  | .oraIzx _ => 0x01
  | .oraIzy _ => 0x11
  | .pha => 0x48
  | .php => 0x08
  | .pla => 0x68
  | .plp => 0x28
  | .rolAcc => 0x2A
  | .rolZp _ => 0x26
  | .rolZpx _ => 0x36
  | .rolAbs _ => 0x2E
  | .rolAbx _ => 0x3E
  | .rorAcc => 0x6A
  | .rorZp _ => 0x66
  | .rorZpx _ => 0x76
  | .rorAbs _ => 0x6E
  | .rorAbx _ => 0x7E
  | .rti => 0x40
  | .rts => 0x60
  | .sbcImm _ => 0xE9
  | .sbcZp _ => 0xE5
  | .sbcZpx _ => 0xF5
  | .sbcAbs _ => 0xED
  | .sbcAbx _ => 0xFD
  | .sbcAby _ => 0xF9
  | .sbcIzx _ => 0xE1
  | .sbcIzy _ => 0xF1
  | .sbcImmEB _ => 0xEB
  | .sec => 0x38
  | .sed => 0xF8
  | .sei => 0x78
  | .staZp _ => 0x85
  | .staZpx _ => 0x95
  | .staAbs _ => 0x8D
  | .staAbx _ => 0x9D
  | .staAby _ => 0x99
  | .staIzx _ => 0x81
  | .staIzy _ => 0x91
  | .stxZp _ => 0x86
  | .stxZpy _ => 0x96
  | .stxAbs _ => 0x8E
  | .styZp _ => 0x84
  | .styZpx _ => 0x94
  | .styAbs _ => 0x8C
  | .tax => 0xAA
  | .tay => 0xA8
  | .tsx => 0xBA
  | .txa => 0x8A
  | .txs => 0x9A
  | .tya => 0x98

/-- The operand bytes of a format, in memory order (R81, R83): a 16-bit value low byte first, a displacement in
two's complement. -/
def MemMode.operandBytes : MemMode → List Byte
  | .zp b | .zpx b | .zpy b | .izx b | .izy b => [b]
  | .abs w | .abx w | .aby w => [loByte w, hiByte w]

@[inherit_doc MemMode.operandBytes]
def Mode.operandBytes : Mode → List Byte
  | .imp | .stk | .acc => []
  | .imm b => [b]
  | .mem m => m.operandBytes
  | .rel d => [BitVec.ofInt 8 d]
  | .ind w => [loByte w, hiByte w]

/-- The bytes of an instruction in memory order (R80). -/
def encode (i : Instr) : List Byte := i.opcode :: i.mode.operandBytes

end Sys2Proof
end

