-- ==== Sys2Proof/Machine/Fetch.lean ====
section
/-! DEFINITION. Fetching an instruction's bytes, and placing an instruction where the next step fetches. -/

namespace Sys2Proof.Machine

open Sys2Proof

/-- An instruction's bytes as fetched, and the state after the reads. -/
structure Fetched where
  op : Byte
  b1 : Byte
  b2 : Byte
  state : State
  deriving DecidableEq, Repr

/-- The operand reads made before an instruction starts (30_encoding.md R82): its operand bytes, but for JSR ($20),
whose second one is read after its pushes (46_jump_subroutine.md R192). -/
def fetchReads (op : Byte) : Nat :=
  match shapeOf op with
  | none => 0
  | some sh => if op = 0x20 then 1 else sh.operandBytes

/-- Fetch at PC (R82), PC left where it is. An operand byte that is not read here is looked at without an access: no
instruction's meaning uses one (JSR reads its own again). Log entry 19. -/
def fetch (s : State) : Fetched :=
  let op := s.load s.pc
  let b1 := if fetchReads op.1 ≥ 1 then op.2.load (s.pc + 1) else (op.2.peek (s.pc + 1), op.2)
  let b2 := if fetchReads op.1 ≥ 2 then b1.2.load (s.pc + 2) else (b1.2.peek (s.pc + 2), b1.2)
  { op := op.1, b1 := b1.1, b2 := b2.1, state := b2.2 }

/-- The instruction the fetched bytes stand for. -/
def decodeFetched (f : Fetched) : Option Instr := decodeBytes f.op f.b1 f.b2

/-- Where a program loaded from outside is placed. DESIGN CHOICE, log entry 23. -/
def loadAddress : Word := 0x0200

/-- The state in which the very next step fetches and runs the instruction whose bits are `w` (every bit above
`nbits` 0): its three bytes stand in memory at `loadAddress`, PC is there, and no line, pending bit or sample keeps
the step from fetching. Nothing else changes. It stands for a program being loaded from outside the machine together
with its start address: after reset PC is what the platform's vector holds, a free value in memory nothing has
written. `loadAddress` must be where memory answers (not a device or an unmapped address). Log entry 23. -/
def placeInstruction (s : State) (nbits w : Nat) : State :=
  let v := w % 2 ^ nbits
  let s1 := ((s.poke loadAddress (BitVec.ofNat 8 v)).poke (loadAddress + 1) (BitVec.ofNat 8 (v / 256))).poke
    (loadAddress + 2) (BitVec.ofNat 8 (v / 65536))
  { s1 with
    pc := loadAddress
    lines := { irq := false, nmi := false, res := false }
    schedule := []
    nmiPending := false }

end Sys2Proof.Machine
end

