-- ==== Sys2Proof/Machine/Step.lean ====
section
/-! DEFINITION. One step: the boundary's check, then the reset or entry sequence it chose, or one instruction. -/

namespace Sys2Proof.Machine

open Sys2Proof

/-- Fetch, decode and run one instruction (30_encoding.md R98). -/
def runInstruction (s : State) : Host.Outcome State Fault Refusal :=
  match decodeFetched (fetch s) with
  | some i => exec i (fetch s).state
  | none => .refused (.unlistedOpcode (fetch s).op s.pc)

/-- `Step()` of 30_encoding.md R98. While RES is held, and when a reset or an entry sequence is made, that is the
whole step. -/
def step (s : State) : Host.Outcome State Fault Refusal :=
  match s.boundary with
  | (.execute, s') => runInstruction s'
  | (.held, s') => .next s'
  | (.reset, s') => .next s'
  | (.nmi, s') => .next s'
  | (.irq, s') => .next s'

@[inherit_doc placeInstruction]
def State.withFetchWord (s : State) (nbits w : Nat) : State := placeInstruction s nbits w

end Sys2Proof.Machine
end

