-- ==== Sys2Proof/Safety.lean ====
section
/-! DEFINITION. The terms statements are made in: what an instruction leaves alone, what a write reaches, the flag and
register columns of the spec's tables, and when a run ends. No step uses any of it. -/

namespace Sys2Proof.Machine

open Sys2Proof

/-! ### What stays as it was, from `s` to `t` -/

/-- No instruction touches the inputs or the parameters, and most leave the I latency bit alone. -/
structure SameControl (s t : State) : Prop where
  lines : t.lines = s.lines
  schedule : t.schedule = s.schedule
  nmiPending : t.nmiPending = s.nmiPending
  irqInhibitNext : t.irqInhibitNext = s.irqInhibitNext
  params : t.params = s.params

/-- The port's registers (10_state.md R38) are unchanged. -/
structure SamePort (s t : State) : Prop where
  ddr : t.portDdr = s.portDdr
  latch : t.portLatch = s.portLatch

/-- Every byte of memory reads as before. -/
def SameMemory (s t : State) : Prop := ∀ b : Word, t.peek b = s.peek b

/-- No access was made and the environment was asked nothing: the record (20_memory.md R57) is that of `s`. -/
structure SameRecord (s t : State) : Prop where
  answers : t.answers = s.answers
  draws : t.draws = s.draws
  trace : t.trace = s.trace

/-- A, X, Y and S (10_state.md R20 to R23) are unchanged. -/
structure SameRegisters (s t : State) : Prop where
  a : t.a = s.a
  x : t.x = s.x
  y : t.y = s.y
  sp : t.sp = s.sp

/-! ### Flags -/

/-- The flags `p` with N and Z of the byte `v` (10_state.md R35): N is bit 7, Z says that the byte is zero. -/
def nzOf (p : Flags) (v : Byte) : Flags := { p with n := v.getLsbD 7, z := decide (v.toNat = 0) }

/-- The mnemonics whose flag row marks N with anything but `.` (10_state.md R36). -/
def writesN : List Mnemonic :=
  [.adc, .and, .asl, .bit, .cmp, .cpx, .cpy, .dec, .dex, .dey, .eor, .inc, .inx, .iny, .lda, .ldx, .ldy, .lsr,
    .ora, .pla, .plp, .rol, .ror, .rti, .sbc, .tax, .tay, .tsx, .txa, .tya]

/-- Those that mark V. -/
def writesV : List Mnemonic := [.adc, .bit, .clv, .plp, .rti, .sbc]

/-- Those that mark D. -/
def writesD : List Mnemonic := [.brk, .cld, .plp, .rti, .sed]

/-- Those that mark I. -/
def writesI : List Mnemonic := [.brk, .cli, .plp, .rti, .sei]

/-- Those that mark Z: the same as for N. -/
def writesZ : List Mnemonic :=
  [.adc, .and, .asl, .bit, .cmp, .cpx, .cpy, .dec, .dex, .dey, .eor, .inc, .inx, .iny, .lda, .ldx, .ldy, .lsr,
    .ora, .pla, .plp, .rol, .ror, .rti, .sbc, .tax, .tay, .tsx, .txa, .tya]

/-- Those that mark C. -/
def writesC : List Mnemonic :=
  [.adc, .asl, .clc, .cmp, .cpx, .cpy, .lsr, .plp, .rol, .ror, .rti, .sbc, .sec]

/-! ### Registers -/

/-- The mnemonics that write A (10_state.md R20), but for the shifts, which write it in Accumulator mode only. -/
def writesA : List Mnemonic := [.adc, .and, .eor, .ora, .sbc, .lda, .pla, .txa, .tya]

/-- The shifts (R20; 41_shift_rotate.md R140). -/
def shifts : List Mnemonic := [.asl, .lsr, .rol, .ror]

/-- The mnemonics that write X (R21). -/
def writesX : List Mnemonic := [.dex, .inx, .ldx, .tax, .tsx]

/-- The mnemonics that write Y (R22). -/
def writesY : List Mnemonic := [.dey, .iny, .ldy, .tay]

/-- The mnemonics that write S (R23). -/
def writesS : List Mnemonic := [.txs, .brk, .jsr, .pha, .php, .pla, .plp, .rts, .rti]

/-- The mnemonics that set PC otherwise than by their length (R25). -/
def writesPc : List Mnemonic :=
  [.jmp, .jsr, .rts, .rti, .brk, .bcc, .bcs, .beq, .bmi, .bne, .bpl, .bvc, .bvs]

/-! ### Memory -/

/-- An address whose contents a read gives: RAM or ROM (20_memory.md R57). -/
def Readable (s : State) (w : Word) : Prop :=
  targetOf s.params w = .region .ram ∨ targetOf s.params w = .region .rom

/-- An address that is RAM. -/
def IsRam (s : State) (w : Word) : Prop := targetOf s.params w = .region .ram

/-- What presenting the byte `v` to the address `w` does, from `s` to `t` (20_memory.md R57, 10_state.md R38): RAM
takes it, nothing else in memory changes, and the port's registers change only at their own addresses. That a device
and an unmapped address keep memory as it was, and the port's six bits, are the model's choices: log entries 5, 6, 7. -/
structure Stored (w : Word) (v : Byte) (s t : State) : Prop where
  ram : IsRam s w → t.peek w = v
  kept : ¬ IsRam s w → t.peek w = s.peek w
  others : ∀ b : Word, b ≠ w → t.peek b = s.peek b
  ddr : t.portDdr = if targetOf s.params w = .ddr then v.setWidth 6 else s.portDdr
  latch : t.portLatch = if targetOf s.params w = .data then v.setWidth 6 else s.portLatch

/-- The stack address `k` pushes below the present one (20_memory.md R58). -/
def stackSlot (s : State) (k : Nat) : Word := stackAddr (s.sp - BitVec.ofNat 8 k)

/-- What pushing the bytes `vs`, first one first, does, from `s` to `t`: each stands in its slot where that is RAM,
and no other byte changes (log entry 5). S itself is stated beside it. -/
structure Pushed (vs : List Byte) (s t : State) : Prop where
  slots : ∀ k v, vs[k]? = some v → IsRam s (stackSlot s k) → t.peek (stackSlot s k) = v
  others : ∀ b : Word, (∀ k, k < vs.length → b ≠ stackSlot s k) → t.peek b = s.peek b
  notRam : ∀ b : Word, ¬ IsRam s b → t.peek b = s.peek b

/-! ### Shifts, branches, decimal digits -/

/-- Every bit moves one place left; bit 0 and the bit that leaves are as given (41_shift_rotate.md R141, R143). -/
structure ShiftsLeft (v r : Byte) (enters leaves : Bool) : Prop where
  moved : ∀ k, k < 7 → r.getLsbD (k + 1) = v.getLsbD k
  entered : r.getLsbD 0 = enters
  left : leaves = v.getLsbD 7

/-- Every bit moves one place right; bit 7 and the bit that leaves are as given (R142, R144). -/
structure ShiftsRight (v r : Byte) (enters leaves : Bool) : Prop where
  moved : ∀ k, k < 7 → r.getLsbD k = v.getLsbD (k + 1)
  entered : r.getLsbD 7 = enters
  left : leaves = v.getLsbD 0

/-- The four figures of 41_shift_rotate.md: old carry `c`, byte `v`, result `r`, new carry `c'`. -/
def Shifted (m : Mnemonic) (c : Bool) (v r : Byte) (c' : Bool) : Prop :=
  match m with
  | .asl => ShiftsLeft v r false c'
  | .lsr => ShiftsRight v r false c'
  | .rol => ShiftsLeft v r c c'
  | .ror => ShiftsRight v r c c'
  | _ => False

/-- The condition a branch tests (42_branches.md R151 to R158); `none` for what is no branch. -/
def branchTest : Mnemonic → Option (Flags → Bool)
  | .bcc => some fun p => !p.c
  | .bcs => some fun p => p.c
  | .beq => some fun p => p.z
  | .bmi => some fun p => p.n
  | .bne => some fun p => !p.z
  | .bpl => some fun p => !p.n
  | .bvc => some fun p => !p.v
  | .bvs => some fun p => p.v
  | _ => none

/-- A byte whose two digits are decimal (40_alu.md R121). -/
def isBcd (v : Byte) : Bool := decide (v.toNat / 16 ≤ 9) && decide (v.toNat % 16 ≤ 9)

/-- The number two decimal digits stand for. -/
def bcdValue (v : Byte) : Nat := 10 * (v.toNat / 16) + v.toNat % 16

/-! ### Runs -/

/-- HALT: when a run ends (00_scope.md R6, 92_eei_decisions.md D10). Log entry 28. -/
inductive Halt where
  | never
  | atPc (w : Word)       -- PC holds this address
  | selfJump              -- the next instruction is a jump or a taken branch to itself
  deriving DecidableEq, Repr

/-- Whether a run ends before the step from `s`. The bytes at PC are looked at without an access. -/
def halted (h : Halt) (s : State) : Bool :=
  match h with
  | .never => false
  | .atPc w => s.pc == w
  | .selfJump =>
    match decodeBytes (s.peek s.pc) (s.peek (s.pc + 1)) (s.peek (s.pc + 2)) with
    | some (.jmpAbs w) => w == s.pc
    | some i =>
      match i.mode, branchTest i.mnemonic with
      | .rel d, some test => d == -2 && test s.p
      | _, _ => false
    | none => false

/-- At most `n` steps, ending where HALT says. -/
def runUntil (h : Halt) : Nat → State → Result
  | 0, s => .next s
  | n + 1, s =>
    if halted h s then .next s
    else
      match step s with
      | .next t => runUntil h n t
      | .fault r => .fault r
      | .refused r => .refused r

/-- A safe run: it never meets one of the 77 unlisted opcodes (30_encoding.md R107), the one thing that stops the
model. -/
def safeFor (h : Halt) (n : Nat) (s : State) : Bool :=
  match runUntil h n s with
  | .next _ => true
  | .fault _ => false
  | .refused _ => false

/-- The invariant every step keeps: memory has its canonical form. -/
def MemInv (s : State) : Prop := s.mem.wf = true

end Sys2Proof.Machine
end

