-- ==== Sys2Proof/Certificates/Slice0/Obligations.lean ====
section
/-! DEFINITION. The statements for the provers, one `def` each. The terms they use are in Safety.lean. -/

open Sys2Proof Sys2Proof.Machine

/-- O1. At least one instruction of each family and one of each format, from the bytes the encoding gives it (R81, R83, R100). -/
def Obligations.DecodesSampleWords : Prop :=
  decode [0x69, 0x05] = .ok (.adcImm 0x05, []) ∧ decode [0x7D, 0xF8, 0x12] = .ok (.adcAbx 0x12F8, []) ∧
  decode [0x24, 0x40] = .ok (.bitZp 0x40, []) ∧ decode [0xEB, 0x01] = .ok (.sbcImmEB 0x01, []) ∧
  decode [0x0A] = .ok (.aslAcc, []) ∧ decode [0x36, 0x10] = .ok (.rolZpx 0x10, []) ∧
  decode [0x90, 0xFE] = .ok (.bcc (-2), []) ∧ decode [0x10, 0x7F] = .ok (.bpl 127, []) ∧
  decode [0x00] = .ok (.brk, []) ∧ decode [0x89, 0x55] = .ok (.nopImm89 0x55, []) ∧
  decode [0x78] = .ok (.sei, []) ∧ decode [0xEE, 0x00, 0x20] = .ok (.incAbs 0x2000, []) ∧
  decode [0x6C, 0xFF, 0x12] = .ok (.jmpInd 0x12FF, []) ∧ decode [0x20, 0x34, 0x12] = .ok (.jsr 0x1234, []) ∧
  decode [0xA1, 0x20] = .ok (.ldaIzx 0x20, []) ∧ decode [0x91, 0x20] = .ok (.staIzy 0x20, []) ∧
  decode [0x96, 0xF0] = .ok (.stxZpy 0xF0, []) ∧ decode [0xBE, 0x01, 0x30] = .ok (.ldxAby 0x3001, []) ∧
  decode [0x28] = .ok (.plp, []) ∧ decode [0x9A] = .ok (.txs, [])

/-- O2. The 77 values are written out as R107 lists them. That they are refused is decision D1 (log entry 20). -/
def Obligations.UnlistedOpcodesRefused : Prop :=
  ∀ (op : Byte) (rest : List Byte),
    (shapeOf op = none ↔ decode (op :: rest) = .error (.unlistedOpcode op)) ∧
    (decode (op :: rest) = .error (.unlistedOpcode op) ↔ op ∈ ([0x02, 0x03, 0x07, 0x0B, 0x0F, 0x12, 0x13, 0x17, 0x1B, 0x1F, 0x22, 0x23, 0x27, 0x2B, 0x2F, 0x32,
      0x33, 0x37, 0x3B, 0x3F] ++ [0x42, 0x43, 0x47, 0x4B, 0x4F, 0x52, 0x53, 0x57, 0x5B, 0x5F, 0x62, 0x63, 0x67,
      0x6B, 0x6F, 0x72, 0x73, 0x77, 0x7B, 0x7F] ++ [0x83, 0x87, 0x8B, 0x8F, 0x92, 0x93, 0x97, 0x9B, 0x9C, 0x9E,
      0x9F, 0xA3, 0xA7, 0xAB, 0xAF, 0xB2, 0xB3, 0xB7, 0xBB, 0xBF] ++ [0xC3, 0xC7, 0xCB, 0xCF, 0xD2, 0xD3, 0xD7,
      0xDB, 0xDF, 0xE3, 0xE7, 0xEF, 0xF2, 0xF3, 0xF7, 0xFB, 0xFF] : List Byte))

/-- O3. All 179 constructors, every operand the encoding admits, whatever follows. -/
def Obligations.DecodeOfEncode : Prop :=
  ∀ (i : Instr) (rest : List Byte), i.wf = true → decode (encode i ++ rest) = .ok (i, rest)

/-- O4. The other direction: no bit of an instruction is ignored, and each byte string has one meaning. -/
def Obligations.EncodeOfDecode : Prop :=
  ∀ (bytes rest : List Byte) (i : Instr), decode bytes = .ok (i, rest) → i.wf = true ∧ encode i ++ rest = bytes

/-- O5. Nothing in the operand bytes takes part in selecting the instruction (R80), and its length follows from the opcode (R99). -/
def Obligations.OpcodeAloneSelects : Prop :=
  ∀ (op : Byte) (bs bs' rest rest' : List Byte) (i i' : Instr),
    decode (op :: bs) = .ok (i, rest) → decode (op :: bs') = .ok (i', rest') →
    i.mnemonic = i'.mnemonic ∧ i.length = i'.length ∧ i.length + rest.length = bs.length + 1 ∧
      1 ≤ i.length ∧ i.length ≤ 3

/-- O6. What `step` adds around `exec` on this machine: the boundary clears the I latency bit, and the fetch reads stand in the record, opcode last in the list (newest first). JSR reads its third byte itself (R82, log entry 19). -/
def Obligations.StepRunsDecodedInstruction : Prop :=
  ∀ (s : State) (i : Instr) (rest : List Byte),
    s.schedule = [] → s.lines.res = false → s.nmiPending = false →
    (s.lines.irq = true → (s.p.i ^^ s.irqInhibitNext) = true) →
    Readable s s.pc → Readable s (s.pc + 1) → Readable s (s.pc + 2) →
    decode [s.peek s.pc, s.peek (s.pc + 1), s.peek (s.pc + 2)] = .ok (i, rest) →
    i.wf = true ∧
    step s = exec i { s with
      irqInhibitNext := false
      trace := (if i.length = 3 ∧ i.mnemonic ≠ .jsr then [.read (s.pc + 2) (s.peek (s.pc + 2))] else []) ++
        (if 2 ≤ i.length then [.read (s.pc + 1) (s.peek (s.pc + 1))] else []) ++
        .read s.pc (s.peek s.pc) :: s.trace }

/-- O7. R230: nothing in the 6510 raises a fault; the one refusal is R107's, which R98 makes at the fetch (decision D1, log entries 20, 29). Which opcodes have no shape is in `UnlistedOpcodesRefused`. -/
def Obligations.StepStopsOnlyOnUnlistedOpcode : Prop :=
  ∀ s : State,
    (s.boundary.1 = .execute ∧ shapeOf (s.boundary.2.load s.pc).1 = none ↔
      step s = .refused (.unlistedOpcode (s.boundary.2.load s.pc).1 s.pc)) ∧
    (¬ (s.boundary.1 = .execute ∧ shapeOf (s.boundary.2.load s.pc).1 = none) → ∃ t, step s = .next t)

/-- O8. All 179 constructors, no hypothesis: no instruction raises an exception (R230) and none is privileged (R250). -/
def Obligations.EveryInstructionCompletes : Prop :=
  ∀ (i : Instr) (s : State), ∃ t, exec i s = .next t

/-- O9. R82, whatever answers at the addresses read. The environment may have answered (log entry 17), so `answers` and `draws` are not claimed. -/
def Obligations.FetchKeepsEverythingButTheRecord : Prop :=
  ∀ s : State, ∃ f, fetch s = f ∧
    f.state.trace = (if fetchReads f.op = 2 then [.read (s.pc + 2) f.b2] else []) ++
      (if 1 ≤ fetchReads f.op then [.read (s.pc + 1) f.b1] else []) ++ .read s.pc f.op :: s.trace ∧
    fetchReads f.op ≤ 2 ∧ f.state.pc = s.pc ∧ f.state.p = s.p ∧ SameRegisters s f.state ∧
    SameMemory s f.state ∧ SamePort s f.state ∧ SameControl s f.state

/-- O10. The order of R235 and R240, with `I_eff = P.I xor irq_inhibit_next`, over the levels just sampled (log entry 15). -/
def Obligations.BoundaryChoice : Prop :=
  ∀ s : State, ∃ s', s.sampleLines = s' ∧ s'.pc = s.pc ∧
    (s.boundary.1 = .held ↔ s'.lines.res = true) ∧
    (s.boundary.1 = .reset ↔ s'.lines.res = false ∧ s.lines.res = true) ∧
    (s.boundary.1 = .nmi ↔ s'.lines.res = false ∧ s.lines.res = false ∧ s'.nmiPending = true) ∧
    (s.boundary.1 = .irq ↔ s'.lines.res = false ∧ s.lines.res = false ∧ s'.nmiPending = false ∧
      s'.lines.irq = true ∧ (s.p.i ^^ s.irqInhibitNext) = false)

/-- O11. R234: edge-sensitive, an edge at any boundary. That a sample holds the levels and a pulse between two boundaries is the model's choice (log entry 14). -/
def Obligations.NmiEdgeLatched : Prop :=
  ∀ (s : State) (l : Sample) (later : List Sample),
    (s.schedule = l :: later →
      (s.sampleLines.nmiPending = true ↔
        s.nmiPending = true ∨ l.nmiPulse = true ∨ (s.lines.nmi = false ∧ l.lines.nmi = true)) ∧
      s.sampleLines.lines = l.lines ∧ s.sampleLines.schedule = later) ∧
    (s.schedule = [] → s.sampleLines = s)

/-- O12. R237 with the NMI vector. -/
def Obligations.NmiEntry : Prop :=
  ∀ s : State, s.boundary.1 = .nmi →
    ∃ t, step s = .next t ∧
      Pushed [hiByte s.pc, loByte s.pc, s.p.pack false] s t ∧ t.sp = s.sp - 3 ∧
      t.p = { s.p with i := true } ∧ t.a = s.a ∧ t.x = s.x ∧ t.y = s.y ∧ SamePort s t ∧
      t.nmiPending = false ∧ t.irqInhibitNext = false ∧ t.params = s.params ∧
      (∃ lo hi, t.pc.toNat = lo.toNat + 256 * hi.toNat ∧
        t.trace = [.read 0xFFFB hi, .read 0xFFFA lo, .write (stackSlot s 2) (s.p.pack false),
          .write (stackSlot s 1) (loByte s.pc), .write (stackSlot s 0) (hiByte s.pc)] ++ s.trace ∧
        (Readable s 0xFFFA → Readable s 0xFFFB → lo = s.peek 0xFFFA ∧ hi = s.peek 0xFFFB))

/-- O13. R237 with the IRQ vector. An IRQ is taken only where no NMI is pending (R240), so none is pending after it. -/
def Obligations.IrqEntry : Prop :=
  ∀ s : State, s.boundary.1 = .irq →
    ∃ t, step s = .next t ∧
      Pushed [hiByte s.pc, loByte s.pc, s.p.pack false] s t ∧ t.sp = s.sp - 3 ∧
      t.p = { s.p with i := true } ∧ t.a = s.a ∧ t.x = s.x ∧ t.y = s.y ∧ SamePort s t ∧
      t.nmiPending = false ∧ t.irqInhibitNext = false ∧ t.params = s.params ∧
      (∃ lo hi, t.pc.toNat = lo.toNat + 256 * hi.toNat ∧
        t.trace = [.read 0xFFFF hi, .read 0xFFFE lo, .write (stackSlot s 2) (s.p.pack false),
          .write (stackSlot s 1) (loByte s.pc), .write (stackSlot s 0) (hiByte s.pc)] ++ s.trace ∧
        (Readable s 0xFFFE → Readable s 0xFFFF → lo = s.peek 0xFFFE ∧ hi = s.peek 0xFFFF))

/-- O14. R260. With PORT_MODEL = plain_ram there is no direction register to clear. -/
def Obligations.ResetStep : Prop :=
  ∀ s : State, s.boundary.1 = .reset →
    ∃ t, step s = .next t ∧ t.sp = s.sp - 3 ∧ t.p = { s.p with i := true } ∧ t.a = s.a ∧ t.x = s.x ∧ t.y = s.y ∧
      SameMemory s t ∧ t.portLatch = s.portLatch ∧
      (s.params.port = .device → t.portDdr = 0) ∧ (s.params.port = .plainRam → t.portDdr = s.portDdr) ∧
      t.nmiPending = false ∧ t.irqInhibitNext = false ∧ t.params = s.params ∧
      (∃ lo hi, t.pc.toNat = lo.toNat + 256 * hi.toNat ∧
        t.trace = [.read 0xFFFD hi, .read 0xFFFC lo] ++ s.trace) ∧
      (Readable s 0xFFFC → Readable s 0xFFFD →
        t.pc.toNat = (s.peek 0xFFFC).toNat + 256 * (s.peek 0xFFFD).toNat)

/-- O15. R43. That the machine then waits, one step per sample, is log entry 16. -/
def Obligations.HeldInReset : Prop :=
  ∀ s : State, s.sampleLines.lines.res = true →
    ∃ t, step s = .next t ∧ SameRegisters s t ∧ t.pc = s.pc ∧ t.p = s.p ∧ SameMemory s t ∧ SamePort s t ∧
      SameRecord s t ∧ t.params = s.params ∧ t.irqInhibitNext = s.irqInhibitNext

/-- O16. Of the registers only what R44 and R261 define is claimed; every other reset value is the model's (log entries 9 to 13). That memory lists nothing, so that the vector reads free bytes, is the model's choice (log entries 8, 12). -/
def Obligations.ResetStateDefinedValues : Prop :=
  State.reset.p.i = true ∧ State.reset.nmiPending = false ∧ State.reset.irqInhibitNext = false ∧
  State.reset.portDdr = 0 ∧ State.reset.mem = [] ∧ State.reset.pc = (State.reset.loadWord 0xFFFC).1

/-- O17. R236. The check decides with `P.I xor irq_inhibit_next` (R235, `BoundaryChoice`); the boundary clears the bit before the instruction, which is the first hypothesis. -/
def Obligations.LatencyOfI : Prop :=
  ∀ (i : Instr) (s : State), s.irqInhibitNext = false → i.mnemonic ∈ [Mnemonic.cli, .sei, .plp, .rti] →
    ∃ t, exec i s = .next t ∧
      (t.p.i ^^ t.irqInhibitNext) =
        (if i.mnemonic ≠ .rti ∧ s.params.iLatency = .exact then s.p.i else t.p.i)

/-- O18. R87 to R94 in natural numbers. The two indirect modes are said for pointer bytes in memory that answers reads. -/
def Obligations.EffectiveAddresses : Prop :=
  ∀ (s : State) (b : Byte) (w : Word),
    ea (.zp b) s = (BitVec.ofNat 16 b.toNat, s) ∧
    ea (.zpx b) s = (BitVec.ofNat 16 ((b.toNat + s.x.toNat) % 256), s) ∧
    ea (.zpy b) s = (BitVec.ofNat 16 ((b.toNat + s.y.toNat) % 256), s) ∧
    ea (.abs w) s = (w, s) ∧
    ea (.abx w) s = (BitVec.ofNat 16 ((w.toNat + s.x.toNat) % 65536), s) ∧
    ea (.aby w) s = (BitVec.ofNat 16 ((w.toNat + s.y.toNat) % 65536), s) ∧
    (∀ p q : Word, p.toNat = (b.toNat + s.x.toNat) % 256 → q.toNat = (b.toNat + s.x.toNat + 1) % 256 →
      Readable s p → Readable s q →
      (ea (.izx b) s).1.toNat = (s.peek p).toNat + 256 * (s.peek q).toNat ∧
      (ea (.izx b) s).2 = { s with trace := .read q (s.peek q) :: .read p (s.peek p) :: s.trace }) ∧
    (∀ p q : Word, p.toNat = b.toNat → q.toNat = (b.toNat + 1) % 256 →
      Readable s p → Readable s q →
      (ea (.izy b) s).1.toNat = ((s.peek p).toNat + 256 * (s.peek q).toNat + s.y.toNat) % 65536 ∧
      (ea (.izy b) s).2 = { s with trace := .read q (s.peek q) :: .read p (s.peek p) :: s.trace })

/-- O19. R95, whatever answers at the address; where that is RAM or ROM the byte is the one in memory (20_memory.md R57). -/
def Obligations.OperandIsReadOnce : Prop :=
  ∀ (s : State) (b : Byte) (m : MemMode),
    operandOf (.imm b) s = some (b, s) ∧ operandOf .acc s = some (s.a, s) ∧
    (∃ o, operandOf (.mem m) s = some o ∧ o.2.trace = .read (ea m s).1 o.1 :: (ea m s).2.trace ∧
      (Readable s (ea m s).1 → o.1 = s.peek (ea m s).1) ∧
      SameRegisters s o.2 ∧ o.2.pc = s.pc ∧ o.2.p = s.p ∧ SameMemory s o.2 ∧ SamePort s o.2 ∧ SameControl s o.2)

/-- O20. All 18 forms. The operand is `operandOf`'s, with PC already past the instruction (`OperandIsReadOnce`). -/
def Obligations.LoadsCopyOperand : Prop :=
  ∀ (i : Instr) (s : State), i.mnemonic ∈ [Mnemonic.lda, .ldx, .ldy] →
    ∃ o t, operandOf i.mode (s.advance i.length) = some o ∧ exec i s = .next t ∧
      t.a = (if i.mnemonic = .lda then o.1 else s.a) ∧ t.x = (if i.mnemonic = .ldx then o.1 else s.x) ∧
      t.y = (if i.mnemonic = .ldy then o.1 else s.y) ∧ t.sp = s.sp ∧ t.p = nzOf s.p o.1 ∧
      t.pc = s.pc + BitVec.ofNat 16 i.length ∧ SameRecord o.2 t ∧ SameMemory s t ∧ SamePort s t ∧ SameControl s t

/-- O21. All 13 forms. The address is `ea` of the form's mode, applied as the meaning applies it. RAM takes the byte, the port registers their six bits, and a device or an unmapped address keeps memory as it was: R57, R38 and the model's choices (log entries 5, 6, 7). -/
def Obligations.StoresWriteEffectiveAddress : Prop :=
  ∀ (i : Instr) (m : MemMode) (s : State), i.mnemonic ∈ [Mnemonic.sta, .stx, .sty] → i.mode = .mem m →
    ∃ v t, v = (if i.mnemonic = .sta then s.a else if i.mnemonic = .stx then s.x else s.y) ∧
      exec i s = .next t ∧ Stored (ea m (s.advance i.length)).1 v s t ∧
      t.trace = .write (ea m (s.advance i.length)).1 v :: (ea m (s.advance i.length)).2.trace ∧
      SameRegisters s t ∧ t.p = s.p ∧ t.pc = s.pc + BitVec.ofNat 16 i.length ∧ SameControl s t

/-- O22. The six transfers. -/
def Obligations.TransfersCopyRegister : Prop :=
  ∀ s : State,
    (∃ t, exec .tax s = .next t ∧ t = { s with x := s.a, p := nzOf s.p s.a, pc := s.pc + 1 }) ∧
    (∃ t, exec .tay s = .next t ∧ t = { s with y := s.a, p := nzOf s.p s.a, pc := s.pc + 1 }) ∧
    (∃ t, exec .tsx s = .next t ∧ t = { s with x := s.sp, p := nzOf s.p s.sp, pc := s.pc + 1 }) ∧
    (∃ t, exec .txa s = .next t ∧ t = { s with a := s.x, p := nzOf s.p s.x, pc := s.pc + 1 }) ∧
    (∃ t, exec .tya s = .next t ∧ t = { s with a := s.y, p := nzOf s.p s.y, pc := s.pc + 1 }) ∧
    (∃ t, exec .txs s = .next t ∧ t = { s with sp := s.x, pc := s.pc + 1 })

/-- O23. All 24 forms, bit by bit. -/
def Obligations.LogicOps : Prop :=
  ∀ (i : Instr) (s : State), i.mnemonic ∈ [Mnemonic.and, .ora, .eor] →
    ∃ o t, operandOf i.mode (s.advance i.length) = some o ∧ exec i s = .next t ∧
      (∀ k, k < 8 → t.a.getLsbD k =
        (if i.mnemonic = .and then s.a.getLsbD k && o.1.getLsbD k
         else if i.mnemonic = .ora then s.a.getLsbD k || o.1.getLsbD k
         else s.a.getLsbD k != o.1.getLsbD k)) ∧
      t.p = nzOf s.p t.a ∧
      t.x = s.x ∧ t.y = s.y ∧ t.sp = s.sp ∧ t.pc = s.pc + BitVec.ofNat 16 i.length ∧ SameRecord o.2 t ∧
      SameMemory s t ∧ SamePort s t ∧ SameControl s t

/-- O24. Both forms. -/
def Obligations.BitTest : Prop :=
  ∀ (i : Instr) (s : State), i.mnemonic = .bit →
    ∃ o t, operandOf i.mode (s.advance i.length) = some o ∧ exec i s = .next t ∧ t.a = s.a ∧
      (t.p.z = true ↔ ∀ k, k < 8 → ¬ (s.a.getLsbD k = true ∧ o.1.getLsbD k = true)) ∧
      t.p.n = o.1.getLsbD 7 ∧ t.p.v = o.1.getLsbD 6 ∧ t.p.d = s.p.d ∧ t.p.i = s.p.i ∧ t.p.c = s.p.c ∧
      t.x = s.x ∧ t.y = s.y ∧ t.sp = s.sp ∧ t.pc = s.pc + BitVec.ofNat 16 i.length ∧ SameRecord o.2 t ∧
      SameMemory s t ∧ SamePort s t ∧ SameControl s t

/-- O25. All 14 forms, in both decimal modes. That C is not-borrow is marked general knowledge in R124. -/
def Obligations.Compares : Prop :=
  ∀ (i : Instr) (s : State), i.mnemonic ∈ [Mnemonic.cmp, .cpx, .cpy] →
    ∃ r o t, r = (if i.mnemonic = .cmp then s.a else if i.mnemonic = .cpx then s.x else s.y) ∧
      operandOf i.mode (s.advance i.length) = some o ∧ exec i s = .next t ∧ t.a = s.a ∧
      (t.p.c = true ↔ o.1.toNat ≤ r.toNat) ∧ (t.p.z = true ↔ r = o.1) ∧
      (t.p.n = true ↔ 128 ≤ (r.toNat + 256 - o.1.toNat) % 256) ∧
      t.p.v = s.p.v ∧ t.p.d = s.p.d ∧ t.p.i = s.p.i ∧
      t.x = s.x ∧ t.y = s.y ∧ t.sp = s.sp ∧ t.pc = s.pc + BitVec.ofNat 16 i.length ∧ SameRecord o.2 t ∧
      SameMemory s t ∧ SamePort s t ∧ SameControl s t

/-- O26. All eight forms. V is said of the signed sum, not by the bit formula the model computes; R120 marks that definition general knowledge. -/
def Obligations.AdcBinary : Prop :=
  ∀ (i : Instr) (s : State), i.mnemonic = .adc → s.p.d = false →
    ∃ o t, operandOf i.mode (s.advance i.length) = some o ∧ exec i s = .next t ∧
      t.a.toNat = (s.a.toNat + o.1.toNat + s.p.c.toNat) % 256 ∧
      (t.p.c = true ↔ 255 < s.a.toNat + o.1.toNat + s.p.c.toNat) ∧
      (t.p.v = true ↔ s.a.toInt + o.1.toInt + s.p.c.toNat < -128 ∨ 127 < s.a.toInt + o.1.toInt + s.p.c.toNat) ∧
      t.p.n = t.a.getLsbD 7 ∧ (t.p.z = true ↔ t.a = 0) ∧ t.p.d = s.p.d ∧ t.p.i = s.p.i ∧
      t.x = s.x ∧ t.y = s.y ∧ t.sp = s.sp ∧ t.pc = s.pc + BitVec.ofNat 16 i.length ∧ SameRecord o.2 t ∧
      SameMemory s t ∧ SamePort s t ∧ SameControl s t

/-- O27. R121's pseudocode, its lines as hypotheses on numbers `al`, `al'`, `hs`, `t1`, `t1'` (log entry 2). -/
def Obligations.AdcDecimal : Prop :=
  ∀ (i : Instr) (s : State), i.mnemonic = .adc → s.p.d = true →
    ∃ o t, operandOf i.mode (s.advance i.length) = some o ∧ exec i s = .next t ∧
      (∀ ah mh al al' t1 t1' : Nat, ∀ hs : Int, ah = (s.a &&& 0xF0).toNat → mh = (o.1 &&& 0xF0).toNat →
        al = (s.a &&& 0x0F).toNat + (o.1 &&& 0x0F).toNat + s.p.c.toNat →
        al' = (if 10 ≤ al then (al + 6) % 16 + 16 else al) →
        hs = (s.a &&& 0xF0).toInt + (o.1 &&& 0xF0).toInt + al' →
        t1 = ah + mh + al' → t1' = (if 0xA0 ≤ t1 then t1 + 0x60 else t1) →
        (t.p.n = true ↔ 128 ≤ hs % 256) ∧ (t.p.v = true ↔ hs < -128 ∨ 127 < hs) ∧
        (t.p.c = true ↔ 0x100 ≤ t1') ∧ t.a.toNat = t1' % 256) ∧
      (t.p.z = true ↔ (s.a.toNat + o.1.toNat + s.p.c.toNat) % 256 = 0) ∧ t.p.d = s.p.d ∧ t.p.i = s.p.i ∧
      t.x = s.x ∧ t.y = s.y ∧ t.sp = s.sp ∧ t.pc = s.pc + BitVec.ofNat 16 i.length ∧ SameRecord o.2 t ∧
      SameMemory s t ∧ SamePort s t ∧ SameControl s t

/-- O28. All eight forms. What the digit-wise algorithm is for (log entry 2). -/
def Obligations.AdcDecimalIsDecimalSum : Prop :=
  ∀ (i : Instr) (s : State) (o : Byte × State), i.mnemonic = .adc → s.p.d = true →
    operandOf i.mode (s.advance i.length) = some o → isBcd s.a = true → isBcd o.1 = true →
    ∃ t, exec i s = .next t ∧ isBcd t.a = true ∧
      bcdValue t.a = (bcdValue s.a + bcdValue o.1 + s.p.c.toNat) % 100 ∧
      (t.p.c = true ↔ 99 < bcdValue s.a + bcdValue o.1 + s.p.c.toNat)

/-- O29. All nine forms, $EB included (R131). R129 and R130 give both modes the same flags; V's definition is marked general knowledge. -/
def Obligations.SbcFlagsAndBinaryResult : Prop :=
  ∀ (i : Instr) (s : State), i.mnemonic = .sbc →
    ∃ o t, operandOf i.mode (s.advance i.length) = some o ∧ exec i s = .next t ∧
      (s.p.d = false → (t.a.toNat : Int) = ((s.a.toNat : Int) - o.1.toNat - (1 - s.p.c.toNat)) % 256) ∧
      (t.p.c = true ↔ 0 ≤ (s.a.toNat : Int) - o.1.toNat - (1 - s.p.c.toNat)) ∧
      (t.p.v = true ↔ s.a.toInt - o.1.toInt - (1 - s.p.c.toNat) < -128 ∨
        127 < s.a.toInt - o.1.toInt - (1 - s.p.c.toNat)) ∧
      (t.p.n = true ↔ 128 ≤ ((s.a.toNat : Int) - o.1.toNat - (1 - s.p.c.toNat)) % 256) ∧
      (t.p.z = true ↔ ((s.a.toNat : Int) - o.1.toNat - (1 - s.p.c.toNat)) % 256 = 0) ∧
      t.p.d = s.p.d ∧ t.p.i = s.p.i ∧
      t.x = s.x ∧ t.y = s.y ∧ t.sp = s.sp ∧ t.pc = s.pc + BitVec.ofNat 16 i.length ∧ SameRecord o.2 t ∧
      SameMemory s t ∧ SamePort s t ∧ SameControl s t

/-- O30. R130's pseudocode, its lines as hypotheses on integers (log entry 2). The flags and the frame are `SbcFlagsAndBinaryResult`'s. -/
def Obligations.SbcDecimal : Prop :=
  ∀ (i : Instr) (s : State), i.mnemonic = .sbc → s.p.d = true →
    ∃ o t, operandOf i.mode (s.advance i.length) = some o ∧ exec i s = .next t ∧
      (∀ al al' d d' : Int,
        al = (s.a &&& 0x0F).toNat - (o.1 &&& 0x0F).toNat + s.p.c.toNat - 1 →
        al' = (if al < 0 then (al - 6) % 16 - 16 else al) →
        d = (s.a &&& 0xF0).toNat - (o.1 &&& 0xF0).toNat + al' → d' = (if d < 0 then d - 0x60 else d) →
        (t.a.toNat : Int) = d' % 256)

/-- O31. All nine forms. What the digit-wise algorithm is for (log entry 2). -/
def Obligations.SbcDecimalIsDecimalDifference : Prop :=
  ∀ (i : Instr) (s : State) (o : Byte × State), i.mnemonic = .sbc → s.p.d = true →
    operandOf i.mode (s.advance i.length) = some o → isBcd s.a = true → isBcd o.1 = true →
    ∃ t, exec i s = .next t ∧ isBcd t.a = true ∧
      (bcdValue t.a : Int) = ((bcdValue s.a : Int) - bcdValue o.1 - (1 - s.p.c.toNat)) % 100 ∧
      (t.p.c = false ↔ (bcdValue s.a : Int) - bcdValue o.1 - (1 - s.p.c.toNat) < 0)

/-- O32. R129, "Equivalent formulation", for both immediate encodings, on whole states. -/
def Obligations.SbcIsAdcOfComplement : Prop :=
  ∀ (b : Byte) (s : State), s.p.d = false →
    ∃ t, exec (.adcImm (~~~b)) s = .next t ∧ exec (.sbcImm b) s = .next t ∧ exec (.sbcImmEB b) s = .next t

/-- O33. With `ShiftsInMemory`, every form of the four shifts. The figures are `Shifted`. -/
def Obligations.ShiftsOnAccumulator : Prop :=
  ∀ (i : Instr) (s : State), i.mnemonic ∈ shifts → i.mode = .acc →
    ∃ t, exec i s = .next t ∧ Shifted i.mnemonic s.p.c s.a t.a t.p.c ∧
      t.p = { nzOf s.p t.a with c := t.p.c } ∧ t.x = s.x ∧ t.y = s.y ∧ t.sp = s.sp ∧ t.pc = s.pc + 1 ∧
      SameRecord s t ∧ SameMemory s t ∧ SamePort s t ∧ SameControl s t

/-- O34. The 16 memory forms. `v` is what the one read gives, `r` what the one write stores. One read and one write is R95 (BUS_DETAIL, log entry 21). RAM takes the byte, the port registers their six bits, and a device or an unmapped address keeps memory as it was: R57, R38 and the model's choices (log entries 5, 6, 7). -/
def Obligations.ShiftsInMemory : Prop :=
  ∀ (i : Instr) (m : MemMode) (s : State), i.mnemonic ∈ shifts → i.mode = .mem m →
    ∃ v r t, v = (fetchOperand m (s.advance i.length)).1 ∧ exec i s = .next t ∧ Shifted i.mnemonic s.p.c v r t.p.c ∧
      t.p = { nzOf s.p r with c := t.p.c } ∧ Stored (ea m (s.advance i.length)).1 r s t ∧
      t.trace = .write (ea m (s.advance i.length)).1 r :: .read (ea m (s.advance i.length)).1 v :: (ea m (s.advance i.length)).2.trace ∧
      SameRegisters s t ∧ t.pc = s.pc + BitVec.ofNat 16 i.length ∧ SameControl s t

/-- O35. The nine bits of A and C only turn round. -/
def Obligations.RotatesUndoEachOther : Prop :=
  ∀ s : State,
    (∃ t u, exec .rolAcc s = .next t ∧ exec .rorAcc t = .next u ∧ u.a = s.a ∧ u.p.c = s.p.c) ∧
    (∃ t u, exec .rorAcc s = .next t ∧ exec .rolAcc t = .next u ∧ u.a = s.a ∧ u.p.c = s.p.c)

/-- O36. The eight forms. One read and one write is R95 (BUS_DETAIL, log entry 21). RAM takes the byte, the port registers their six bits, and a device or an unmapped address keeps memory as it was: R57, R38 and the model's choices (log entries 5, 6, 7). -/
def Obligations.IncDecMemory : Prop :=
  ∀ (i : Instr) (m : MemMode) (s : State), i.mnemonic ∈ [Mnemonic.inc, .dec] → i.mode = .mem m →
    ∃ v r t, v = (fetchOperand m (s.advance i.length)).1 ∧ exec i s = .next t ∧
      r.toNat = (v.toNat + (if i.mnemonic = .inc then 1 else 255)) % 256 ∧
      t.p = nzOf s.p r ∧ Stored (ea m (s.advance i.length)).1 r s t ∧
      t.trace = .write (ea m (s.advance i.length)).1 r :: .read (ea m (s.advance i.length)).1 v :: (ea m (s.advance i.length)).2.trace ∧
      SameRegisters s t ∧ t.pc = s.pc + BitVec.ofNat 16 i.length ∧ SameControl s t

/-- O37. The four index steps. INY steps Y (90_conflicts.md C1). -/
def Obligations.IncDecIndex : Prop :=
  ∀ s : State,
    (∃ r : Byte, r.toNat = (s.x.toNat + 1) % 256 ∧
      exec .inx s = .next { s with x := r, p := nzOf s.p r, pc := s.pc + 1 }) ∧
    (∃ r : Byte, r.toNat = (s.y.toNat + 1) % 256 ∧
      exec .iny s = .next { s with y := r, p := nzOf s.p r, pc := s.pc + 1 }) ∧
    (∃ r : Byte, r.toNat = (s.x.toNat + 255) % 256 ∧
      exec .dex s = .next { s with x := r, p := nzOf s.p r, pc := s.pc + 1 }) ∧
    (∃ r : Byte, r.toNat = (s.y.toNat + 255) % 256 ∧
      exec .dey s = .next { s with y := r, p := nzOf s.p r, pc := s.pc + 1 })

/-- O38. The five flag instructions that do not touch I. -/
def Obligations.FlagInstructions : Prop :=
  ∀ s : State,
    exec .clc s = .next { s with p := { s.p with c := false }, pc := s.pc + 1 } ∧
    exec .cld s = .next { s with p := { s.p with d := false }, pc := s.pc + 1 } ∧
    exec .clv s = .next { s with p := { s.p with v := false }, pc := s.pc + 1 } ∧
    exec .sec s = .next { s with p := { s.p with c := true }, pc := s.pc + 1 } ∧
    exec .sed s = .next { s with p := { s.p with d := true }, pc := s.pc + 1 }

/-- O39. R172 and R176; the latency bit is decision D15 (log entry 4). -/
def Obligations.InterruptDisableInstructions : Prop :=
  ∀ s : State,
    exec .cli s = .next { s with
      p := { s.p with i := false }
      pc := s.pc + 1
      irqInhibitNext := if s.params.iLatency = .exact ∧ s.p.i = true then true else s.irqInhibitNext } ∧
    exec .sei s = .next { s with
      p := { s.p with i := true }
      pc := s.pc + 1
      irqInhibitNext := if s.params.iLatency = .exact ∧ s.p.i = false then true else s.irqInhibitNext }

/-- O40. The eight branches, any displacement. The target arithmetic is marked general knowledge in R150. -/
def Obligations.Branches : Prop :=
  ∀ (i : Instr) (d : Int) (test : Flags → Bool) (s : State),
    branchTest i.mnemonic = some test → i.mode = .rel d →
    ∃ t, exec i s = .next t ∧ t = { s with pc := t.pc } ∧
      (t.pc.toNat : Int) = (s.pc.toNat + 2 + (if test s.p = true then d else 0)) % 65536

/-- O41. Opcode $4C. -/
def Obligations.JumpAbsolute : Prop :=
  ∀ (w : Word) (s : State), exec (.jmpAbs w) s = .next { s with pc := w }

/-- O42. Opcode $6C. The page wrap is decision D20 (log entry 26). Where both bytes are in memory that answers reads, the target is theirs. -/
def Obligations.JumpIndirect : Prop :=
  ∀ (w q : Word) (s : State), q.toNat = w.toNat / 256 * 256 + (w.toNat % 256 + 1) % 256 →
    ∃ lo hi t, exec (.jmpInd w) s = .next t ∧ t.pc.toNat = lo.toNat + 256 * hi.toNat ∧
      t.trace = .read q hi :: .read w lo :: s.trace ∧
      (Readable s w → Readable s q → lo = s.peek w ∧ hi = s.peek q) ∧
      SameRegisters s t ∧ t.p = s.p ∧ SameMemory s t ∧ SamePort s t ∧ SameControl s t

/-- O43. Opcode $20. The late read of the high byte is marked general knowledge (log entry 19); where the stack slots are not the instruction's own bytes it gives the byte that stood there. -/
def Obligations.JumpToSubroutine : Prop :=
  ∀ (w ret : Word) (s : State), ret.toNat = (s.pc.toNat + 2) % 65536 →
    ∃ hi t, exec (.jsr w) s = .next t ∧ Pushed [hiByte ret, loByte ret] s t ∧ t.sp = s.sp - 2 ∧
      t.pc.toNat = w.toNat % 256 + 256 * hi.toNat ∧
      t.trace = .read ret hi :: .write (stackSlot s 1) (loByte ret) :: .write (stackSlot s 0) (hiByte ret) ::
        s.trace ∧
      (Readable s ret → hi = t.peek ret) ∧
      t.a = s.a ∧ t.x = s.x ∧ t.y = s.y ∧ t.p = s.p ∧ SamePort s t ∧ SameControl s t

/-- O44. Opcode $60. The pull order is marked general knowledge. -/
def Obligations.ReturnFromSubroutine : Prop :=
  ∀ s : State, ∃ lo hi t, exec .rts s = .next t ∧ t.sp = s.sp + 2 ∧
    t.pc.toNat = (lo.toNat + 256 * hi.toNat + 1) % 65536 ∧
    t.trace = .read (stackAddr (s.sp + 2)) hi :: .read (stackAddr (s.sp + 1)) lo :: s.trace ∧
    (Readable s (stackAddr (s.sp + 1)) → lo = s.peek (stackAddr (s.sp + 1))) ∧
    (Readable s (stackAddr (s.sp + 2)) → hi = s.peek (stackAddr (s.sp + 2))) ∧
    t.a = s.a ∧ t.x = s.x ∧ t.y = s.y ∧ t.p = s.p ∧ SameMemory s t ∧ SamePort s t ∧ SameControl s t

/-- O45. Opcode $00. The push order, the vector and bit 5 are marked general knowledge; D is the parameter BRK_D (log entries 3, 24). -/
def Obligations.BreakInstruction : Prop :=
  ∀ (ret : Word) (s : State), ret.toNat = (s.pc.toNat + 2) % 65536 →
    ∃ lo hi t, exec .brk s = .next t ∧
      Pushed [hiByte ret, loByte ret, s.p.pack true] s t ∧ t.sp = s.sp - 3 ∧
      t.p = { s.p with i := true, d := if s.params.brkD = .clear then false else s.p.d } ∧
      t.pc.toNat = lo.toNat + 256 * hi.toNat ∧
      t.trace = [.read 0xFFFF hi, .read 0xFFFE lo, .write (stackSlot s 2) (s.p.pack true),
        .write (stackSlot s 1) (loByte ret), .write (stackSlot s 0) (hiByte ret)] ++ s.trace ∧
      (Readable s 0xFFFE → Readable s 0xFFFF → lo = s.peek 0xFFFE ∧ hi = s.peek 0xFFFF) ∧
      t.a = s.a ∧ t.x = s.x ∧ t.y = s.y ∧ SamePort s t ∧ SameControl s t

/-- O46. Opcode $40. The pull order and the ignoring of bits 5 and 4 are marked general knowledge. -/
def Obligations.ReturnFromInterrupt : Prop :=
  ∀ s : State, ∃ st lo hi t, exec .rti s = .next t ∧ t.sp = s.sp + 3 ∧
    t.p = { n := st.getLsbD 7, v := st.getLsbD 6, d := st.getLsbD 3, i := st.getLsbD 2, z := st.getLsbD 1,
            c := st.getLsbD 0 } ∧
    t.pc.toNat = lo.toNat + 256 * hi.toNat ∧
    t.trace = .read (stackAddr (s.sp + 3)) hi :: .read (stackAddr (s.sp + 2)) lo ::
      .read (stackAddr (s.sp + 1)) st :: s.trace ∧
    (Readable s (stackAddr (s.sp + 1)) → st = s.peek (stackAddr (s.sp + 1))) ∧
    (Readable s (stackAddr (s.sp + 2)) → lo = s.peek (stackAddr (s.sp + 2))) ∧
    (Readable s (stackAddr (s.sp + 3)) → hi = s.peek (stackAddr (s.sp + 3))) ∧
    t.a = s.a ∧ t.x = s.x ∧ t.y = s.y ∧ SameMemory s t ∧ SamePort s t ∧ SameControl s t

/-- O47. The 28 encodings. That the memory forms make their read is decision D17 (log entry 27). -/
def Obligations.NoOperations : Prop :=
  ∀ (i : Instr) (s : State), i.mnemonic = .nop →
    ∃ t, exec i s = .next t ∧ t.pc = s.pc + BitVec.ofNat 16 i.length ∧ SameRegisters s t ∧ t.p = s.p ∧
      SameMemory s t ∧ SamePort s t ∧ SameControl s t ∧
      (∀ m, i.mode = .mem m → ∃ v, t.trace = .read (ea m (s.advance i.length)).1 v :: (ea m (s.advance i.length)).2.trace) ∧
      ((∀ m, i.mode ≠ .mem m) → SameRecord s t)

/-- O48. Both pushes. The stack's place and the status bits 5 and 4 are marked general knowledge (log entry 25). -/
def Obligations.PushInstructions : Prop :=
  ∀ (i : Instr) (s : State), i.mnemonic ∈ [Mnemonic.pha, .php] →
    ∃ v t, exec i s = .next t ∧
      (if i.mnemonic = .pha then v = s.a
       else v.toNat = 128 * s.p.n.toNat + 64 * s.p.v.toNat + 32 + 16 + 8 * s.p.d.toNat + 4 * s.p.i.toNat +
        2 * s.p.z.toNat + s.p.c.toNat) ∧
      Pushed [v] s t ∧ t.trace = .write (stackSlot s 0) v :: s.trace ∧ t.sp = s.sp - 1 ∧
      t.pc = s.pc + 1 ∧ t.a = s.a ∧ t.x = s.x ∧ t.y = s.y ∧ t.p = s.p ∧ SamePort s t ∧ SameControl s t

/-- O49. Both pulls. The latency bit is decision D15 (log entry 4). -/
def Obligations.PullInstructions : Prop :=
  ∀ (i : Instr) (s : State), i.mnemonic ∈ [Mnemonic.pla, .plp] →
    ∃ v t, exec i s = .next t ∧ t.sp = s.sp + 1 ∧ t.trace = .read (stackAddr (s.sp + 1)) v :: s.trace ∧
      (Readable s (stackAddr (s.sp + 1)) → v = s.peek (stackAddr (s.sp + 1))) ∧
      (if i.mnemonic = .pla then
        t.a = v ∧ t.p = nzOf s.p v ∧ t.irqInhibitNext = s.irqInhibitNext
       else t.a = s.a ∧
        t.p = { n := v.getLsbD 7, v := v.getLsbD 6, d := v.getLsbD 3, i := v.getLsbD 2, z := v.getLsbD 1,
                c := v.getLsbD 0 } ∧
        t.irqInhibitNext =
          (if s.params.iLatency = .exact ∧ v.getLsbD 2 ≠ s.p.i then true else s.irqInhibitNext)) ∧
      t.pc = s.pc + 1 ∧ t.x = s.x ∧ t.y = s.y ∧ SameMemory s t ∧ SamePort s t ∧
      t.lines = s.lines ∧ t.schedule = s.schedule ∧ t.nmiPending = s.nmiPending ∧ t.params = s.params

/-- O50. R34 in both directions (log entry 25). -/
def Obligations.PackAndUnpackStatus : Prop :=
  (∀ (p : Flags) (b : Bool), Flags.unpack (p.pack b) = p ∧ (p.pack b).getLsbD 5 = true ∧
    (p.pack b).getLsbD 4 = b) ∧
  (∀ (v : Byte) (b : Bool), (Flags.unpack v).pack b = (v &&& 0xCF) ||| 0x20 ||| (if b then 0x10 else 0))

/-- O51. Entry and return over any handler `h` that leaves the frame alone. `stackSlot s k` are the frame's three bytes. -/
def Obligations.ReturnUndoesInterruptEntry : Prop :=
  ∀ (s h : State) (ret : Word) (b : Bool) (vector : Word),
    (∀ k, k < 3 → IsRam s (stackSlot s k)) →
    h.sp = (s.enter ret b vector).sp → h.params = s.params →
    (∀ k, k < 3 → h.peek (stackSlot s k) = (s.enter ret b vector).peek (stackSlot s k)) →
    ∃ t, exec .rti h = .next t ∧ t.pc = ret ∧ t.p = s.p ∧ t.sp = s.sp ∧ t.a = h.a ∧ t.x = h.x ∧ t.y = h.y

/-- O52. Call and return over any subroutine that leaves the return address alone. -/
def Obligations.ReturnUndoesCall : Prop :=
  ∀ (s h : State) (w : Word), (∀ k, k < 2 → IsRam s (stackSlot s k)) →
    ∃ c, exec (.jsr w) s = .next c ∧
      (h.sp = c.sp → h.params = s.params →
        (∀ k, k < 2 → h.peek (stackSlot s k) = c.peek (stackSlot s k)) →
        ∃ t, exec .rts h = .next t ∧ t.pc = s.pc + 3 ∧ t.sp = s.sp ∧ t.p = h.p)

/-- O53. The port is general knowledge throughout (log entries 6, 7); the list of answers and the free byte are log entry 17's. `e` is the environment's next byte. -/
def Obligations.ReadAfterWrite : Prop :=
  ∀ (s : State) (w : Word) (v e : Byte), e = s.answers.headD (Config.freeByte s.draws) →
    (targetOf s.params w = .region .ram → ((s.store w v).load w).1 = v) ∧
    (targetOf s.params w = .region .rom → ((s.store w v).load w).1 = s.peek w) ∧
    (targetOf s.params w = .region .device ∨ targetOf s.params w = .region .unmapped →
      ((s.store w v).load w).1 = e) ∧
    (targetOf s.params w = .ddr → ∀ k, k < 8 →
      ((s.store w v).load w).1.getLsbD k = if k < 6 then v.getLsbD k else e.getLsbD k) ∧
    (targetOf s.params w = .data → ∀ k, k < 8 →
      ((s.store w v).load w).1.getLsbD k =
        if k < 6 ∧ s.portDdr.getLsbD k = true then v.getLsbD k else e.getLsbD k)

/-- O54. All instructions, entries and the reset sequence. The form is the model's (log entry 8); what it stands for is R50's address space. -/
def Obligations.StepKeepsMemoryForm : Prop :=
  ∀ s t : State, MemInv s → step s = .next t → MemInv t

/-- O55. The form, and that memory lists nothing at reset, are the model's choice (log entry 8): R44 gives RAM no contents. -/
def Obligations.ResetHasMemoryForm : Prop :=
  MemInv State.reset

/-- O56. R45: they are parameters of the step relation, held in State as data (log entry 1). -/
def Obligations.StepKeepsParameters : Prop :=
  ∀ s t : State, step s = .next t → t.params = s.params

/-- O57. The `.` entries of R36, column by column, for all 179 constructors. What the other entries write is in the statements of each group. -/
def Obligations.FlagColumns : Prop :=
  ∀ (i : Instr) (s : State), ∃ t, exec i s = .next t ∧
    (i.mnemonic ∉ writesN → t.p.n = s.p.n) ∧ (i.mnemonic ∉ writesV → t.p.v = s.p.v) ∧
    (i.mnemonic ∉ writesD → t.p.d = s.p.d) ∧ (i.mnemonic ∉ writesI → t.p.i = s.p.i) ∧
    (i.mnemonic ∉ writesZ → t.p.z = s.p.z) ∧ (i.mnemonic ∉ writesC → t.p.c = s.p.c)

/-- O58. The "Written by" lists of R20 to R23 and the list of R25, for all 179 constructors. -/
def Obligations.RegisterWriters : Prop :=
  ∀ (i : Instr) (s : State), ∃ t, exec i s = .next t ∧
    (i.mnemonic ∉ writesA → ¬ (i.mnemonic ∈ shifts ∧ i.mode = .acc) → t.a = s.a) ∧
    (i.mnemonic ∉ writesX → t.x = s.x) ∧ (i.mnemonic ∉ writesY → t.y = s.y) ∧
    (i.mnemonic ∉ writesS → t.sp = s.sp) ∧
    (i.mnemonic ∉ writesPc → t.pc = s.pc + BitVec.ofNat 16 i.length)

/-- O59. All instructions, entries and the reset sequence: memory changes only by `MemWrite` (R57), and only RAM does. -/
def Obligations.ChangedBytesWereWritten : Prop :=
  ∀ s t : State, step s = .next t →
    ∃ made, t.trace = made ++ s.trace ∧
      ∀ b : Word, t.peek b ≠ s.peek b → IsRam s b ∧ ∃ v, Access.write b v ∈ made

/-- O60. The platform of the spec's own test programs (92_eei_decisions.md D5). The free byte is log entry 17's. -/
def Obligations.PlainMachineAsksNothing : Prop :=
  ∀ s t : State, s.params.port = .plainRam → s.params.platform = [] → step s = .next t →
    t.answers = s.answers ∧ t.draws = s.draws
end

