-- ==== Sys2Proof/Laws/Effect.lean ====
section
/-! SUPPORT. `exec` said once by mnemonic and addressing mode, over the shared operations, so that a proof about an
instruction need not go through the 179 constructors. -/

namespace Sys2Proof.Machine

open Sys2Proof

/-- What an instruction with a data operand does with it; nothing for a mode without one. -/
def withOperand (mode : Mode) (f : Byte × State → State) (s : State) : State :=
  match operandOf mode s with
  | some o => f o
  | none => s

/-- What a store or a read-modify-write does at a memory mode; `acc` is for Accumulator mode. -/
def withMode (mode : Mode) (mem : MemMode → State → State) (acc : State → State) (s : State) : State :=
  match mode with
  | .mem m => mem m s
  | .acc => acc s
  | _ => s

/-- A shift in either kind of mode. -/
def shiftEffect (mode : Mode) (f : Flags → Byte → Byte × Flags) (s : State) : State :=
  withMode mode (fun m s => modifyMem m f s) (modifyReg State.setA State.a f) s

/-- A branch on `cond`. -/
def branchEffect (mode : Mode) (cond : Bool) (s : State) : State :=
  match mode with
  | .rel d => branchIf cond d s
  | _ => s

/-- The effect of an instruction of mnemonic `m` in `mode` on the state with PC at its opcode. -/
def effect (m : Mnemonic) (mode : Mode) (s0 : State) : State :=
  let s := s0.advance mode.length
  match m with
  | .adc => withOperand mode (aluA adc) s
  | .sbc => withOperand mode (aluA sbc) s
  | .and => withOperand mode (aluA andOp) s
  | .eor => withOperand mode (aluA eorOp) s
  | .ora => withOperand mode (aluA oraOp) s
  | .cmp => withOperand mode (testFlags compareFlags State.a) s
  | .cpx => withOperand mode (testFlags compareFlags State.x) s
  | .cpy => withOperand mode (testFlags compareFlags State.y) s
  | .bit => withOperand mode (testFlags bitFlags State.a) s
  | .lda => withOperand mode (loadInto State.setA) s
  | .ldx => withOperand mode (loadInto State.setX) s
  | .ldy => withOperand mode (loadInto State.setY) s
  | .nop => withOperand mode (fun o => o.2) s
  | .sta => withMode mode (fun m s => storeFrom m State.a s) id s
  | .stx => withMode mode (fun m s => storeFrom m State.x s) id s
  | .sty => withMode mode (fun m s => storeFrom m State.y s) id s
  | .asl => shiftEffect mode aslOp s
  | .lsr => shiftEffect mode lsrOp s
  | .rol => shiftEffect mode rolOp s
  | .ror => shiftEffect mode rorOp s
  | .inc => withMode mode (fun m s => modifyMem m incOp s) id s
  | .dec => withMode mode (fun m s => modifyMem m decOp s) id s
  | .inx => modifyReg State.setX State.x incOp s
  | .iny => modifyReg State.setY State.y incOp s
  | .dex => modifyReg State.setX State.x decOp s
  | .dey => modifyReg State.setY State.y decOp s
  | .tax => transfer State.setX State.a s
  | .tay => transfer State.setY State.a s
  | .tsx => transfer State.setX State.sp s
  | .txa => transfer State.setA State.x s
  | .tya => transfer State.setA State.y s
  | .txs => s.setSp s.x
  | .clc => s.setP { s.p with c := false }
  | .cld => s.setP { s.p with d := false }
  | .clv => s.setP { s.p with v := false }
  | .sec => s.setP { s.p with c := true }
  | .sed => s.setP { s.p with d := true }
  | .cli => (s.setI false).noteIChange s.p.i
  | .sei => (s.setI true).noteIChange s.p.i
  | .bcc => branchEffect mode (!s.p.c) s
  | .bcs => branchEffect mode s.p.c s
  | .beq => branchEffect mode s.p.z s
  | .bmi => branchEffect mode s.p.n s
  | .bne => branchEffect mode (!s.p.z) s
  | .bpl => branchEffect mode (!s.p.n) s
  | .bvc => branchEffect mode (!s.p.v) s
  | .bvs => branchEffect mode s.p.v s
  | .jmp => match mode with
    | .mem (.abs w) => s.setPc w
    | .ind w => jumpIndirect w s
    | _ => s
  | .jsr => match mode with
    | .mem (.abs w) => callSubroutine w s
    | _ => s
  | .rts => returnFromSubroutine s
  | .rti => s.leave
  | .brk => clearDOnBrk (s0.enter (s0.pc + 2) true irqVector)
  | .pha => s.push s.a
  | .php => s.push (s.p.pack true)
  | .pla => loadInto State.setA s.pull
  | .plp => pullStatus s

/-- `exec` is the effect of the instruction's mnemonic and mode. -/
theorem exec_eq_effect (i : Instr) (s : State) : exec i s = .next (effect i.mnemonic i.mode s) := by
  cases i <;> rfl

/-- The mnemonics whose every form has a data operand. -/
theorem operandOf_isSome {i : Instr}
    (h : i.mnemonic ∈ [Mnemonic.adc, .sbc, .and, .eor, .ora, .cmp, .cpx, .cpy, .bit, .lda, .ldx, .ldy])
    (s : State) : ∃ o, operandOf i.mode s = some o := by
  cases i <;> first
    | exact ⟨_, rfl⟩
    | (exfalso; simp [Instr.mnemonic] at h)

/-- The mnemonics whose every form is a memory mode. -/
theorem mode_isMem {i : Instr} (h : i.mnemonic ∈ [Mnemonic.sta, .stx, .sty, .inc, .dec, .jsr]) :
    ∃ m, i.mode = .mem m := by
  cases i <;> first
    | exact ⟨_, rfl⟩
    | (exfalso; simp [Instr.mnemonic] at h)

/-- Every form of a shift is Accumulator mode or a memory mode. -/
theorem mode_of_shift {i : Instr} (h : i.mnemonic ∈ [Mnemonic.asl, .lsr, .rol, .ror]) :
    i.mode = .acc ∨ ∃ m, i.mode = .mem m := by
  cases i <;> first
    | exact .inl rfl
    | exact .inr ⟨_, rfl⟩
    | (exfalso; simp [Instr.mnemonic] at h)

end Sys2Proof.Machine
end

