-- ==== Sys2Proof/Laws/Memory.lean ====
section
/-! SUPPORT. Memory's canonical form is kept by every memory operation, and the laws of one byte. -/

namespace Sys2Proof.Machine

open Sys2Proof

/-- The canonical form of a nonempty list: the first entry is in range and lies below the rest. -/
theorem Memory.wf_cons (k : Nat) (v : Byte) (rest : Memory) :
    Memory.wf ((k, v) :: rest) = true ↔ (∀ c ∈ rest, k < c.1) ∧ k < 65536 ∧ Memory.wf rest = true := by
  simp only [Memory.wf, List.pairwise_cons, List.all_cons, Bool.and_eq_true, decide_eq_true_eq]
  tauto

/-- What can stand in memory after a write. -/
theorem Memory.mem_put {m : Memory} {addr : Nat} {v : Byte} {c : Host.Cell} (h : c ∈ m.put addr v) :
    c ∈ m ∨ c = (addr, v) := by
  induction m with
  | nil => exact .inr (by simpa [Memory.put] using h)
  | cons d rest ih =>
    obtain ⟨k, w⟩ := d
    simp only [Memory.put] at h
    split at h
    · exact (List.mem_cons.mp h).symm
    · split at h <;> rcases List.mem_cons.mp h with h | h
      · exact .inr h
      · exact .inl (by simp [h])
      · exact .inl (by simp [h])
      · exact (ih h).imp (fun h => by simp [h]) id

/-- A write keeps the canonical form. -/
theorem Memory.put_wf {m : Memory} {addr : Nat} (v : Byte) (ha : addr < 65536) (hw : m.wf) : (m.put addr v).wf := by
  induction m with
  | nil => simp [Memory.put, Memory.wf, ha]
  | cons d rest ih =>
    obtain ⟨k, w⟩ := d
    obtain ⟨hlt, hk, hrest⟩ := (Memory.wf_cons k w rest).mp hw
    simp only [Memory.put]
    split
    · rename_i hlt'
      refine (Memory.wf_cons _ _ _).mpr ⟨fun c hc => ?_, ha, hw⟩
      rcases List.mem_cons.mp hc with rfl | hc
      · exact hlt'
      · exact Nat.lt_trans hlt' (hlt c hc)
    · split
      · rename_i heq
        subst heq
        exact (Memory.wf_cons _ _ _).mpr ⟨hlt, ha, hrest⟩
      · refine (Memory.wf_cons _ _ _).mpr ⟨fun c hc => ?_, hk, ih hrest⟩
        rcases Memory.mem_put hc with hc | rfl
        · exact hlt c hc
        · simp only; omega

/-- After a write to an address, memory lists the byte there. -/
theorem Memory.get_put_same (m : Memory) (addr : Nat) (v : Byte) : (m.put addr v).get addr = some v := by
  induction m with
  | nil => simp [Memory.put, Memory.get]
  | cons d rest ih =>
    obtain ⟨k, w⟩ := d
    simp only [Memory.put]
    split
    · simp [Memory.get]
    · split <;> simp [Memory.get, *]

/-- A write leaves what is listed at every other address alone. -/
theorem Memory.get_put_other (m : Memory) {addr b : Nat} (v : Byte) (h : b ≠ addr) :
    (m.put addr v).get b = m.get b := by
  induction m with
  | nil => simp [Memory.put, Memory.get, h]
  | cons d rest ih =>
    obtain ⟨k, w⟩ := d
    simp only [Memory.put]
    split
    · simp [Memory.get, h]
    · split
      · rename_i heq
        subst heq
        simp [Memory.get, h]
      · simp [Memory.get, ih]

/-- A read after a write to the same address gives the value written (20_memory.md R60). -/
@[simp] theorem Memory.byteAt_put_same (m : Memory) (addr : Nat) (v : Byte) : (m.put addr v).byteAt addr = v := by
  simp [Memory.byteAt, Memory.get_put_same]

/-- A write leaves every other address alone. -/
theorem Memory.byteAt_put_other (m : Memory) {addr b : Nat} (v : Byte) (h : b ≠ addr) :
    (m.put addr v).byteAt b = m.byteAt b := by
  simp [Memory.byteAt, Memory.get_put_other m v h]

/-- Memory after reset has the canonical form. -/
theorem reset_mem_wf : State.reset.mem.wf = true := by decide

end Sys2Proof.Machine
end

