-- ==== Sys2Proof/Laws/State.lean ====
section
/-! SUPPORT. One lemma per field per named update of the state, so that no later proof unfolds one. -/

namespace Sys2Proof.Machine

open Sys2Proof

variable (s : State)

@[simp] theorem State.setA_a (v : Byte) : (s.setA v).a = v := rfl
@[simp] theorem State.setA_x (v : Byte) : (s.setA v).x = s.x := rfl
@[simp] theorem State.setA_y (v : Byte) : (s.setA v).y = s.y := rfl
@[simp] theorem State.setA_sp (v : Byte) : (s.setA v).sp = s.sp := rfl
@[simp] theorem State.setA_pc (v : Byte) : (s.setA v).pc = s.pc := rfl
@[simp] theorem State.setA_p (v : Byte) : (s.setA v).p = s.p := rfl
@[simp] theorem State.setA_mem (v : Byte) : (s.setA v).mem = s.mem := rfl
@[simp] theorem State.setA_portDdr (v : Byte) : (s.setA v).portDdr = s.portDdr := rfl
@[simp] theorem State.setA_portLatch (v : Byte) : (s.setA v).portLatch = s.portLatch := rfl
@[simp] theorem State.setA_lines (v : Byte) : (s.setA v).lines = s.lines := rfl
@[simp] theorem State.setA_schedule (v : Byte) : (s.setA v).schedule = s.schedule := rfl
@[simp] theorem State.setA_nmiPending (v : Byte) : (s.setA v).nmiPending = s.nmiPending := rfl
@[simp] theorem State.setA_irqInhibitNext (v : Byte) : (s.setA v).irqInhibitNext = s.irqInhibitNext := rfl
@[simp] theorem State.setA_answers (v : Byte) : (s.setA v).answers = s.answers := rfl
@[simp] theorem State.setA_draws (v : Byte) : (s.setA v).draws = s.draws := rfl
@[simp] theorem State.setA_trace (v : Byte) : (s.setA v).trace = s.trace := rfl
@[simp] theorem State.setA_params (v : Byte) : (s.setA v).params = s.params := rfl

@[simp] theorem State.setX_a (v : Byte) : (s.setX v).a = s.a := rfl
@[simp] theorem State.setX_x (v : Byte) : (s.setX v).x = v := rfl
@[simp] theorem State.setX_y (v : Byte) : (s.setX v).y = s.y := rfl
@[simp] theorem State.setX_sp (v : Byte) : (s.setX v).sp = s.sp := rfl
@[simp] theorem State.setX_pc (v : Byte) : (s.setX v).pc = s.pc := rfl
@[simp] theorem State.setX_p (v : Byte) : (s.setX v).p = s.p := rfl
@[simp] theorem State.setX_mem (v : Byte) : (s.setX v).mem = s.mem := rfl
@[simp] theorem State.setX_portDdr (v : Byte) : (s.setX v).portDdr = s.portDdr := rfl
@[simp] theorem State.setX_portLatch (v : Byte) : (s.setX v).portLatch = s.portLatch := rfl
@[simp] theorem State.setX_lines (v : Byte) : (s.setX v).lines = s.lines := rfl
@[simp] theorem State.setX_schedule (v : Byte) : (s.setX v).schedule = s.schedule := rfl
@[simp] theorem State.setX_nmiPending (v : Byte) : (s.setX v).nmiPending = s.nmiPending := rfl
@[simp] theorem State.setX_irqInhibitNext (v : Byte) : (s.setX v).irqInhibitNext = s.irqInhibitNext := rfl
@[simp] theorem State.setX_answers (v : Byte) : (s.setX v).answers = s.answers := rfl
@[simp] theorem State.setX_draws (v : Byte) : (s.setX v).draws = s.draws := rfl
@[simp] theorem State.setX_trace (v : Byte) : (s.setX v).trace = s.trace := rfl
@[simp] theorem State.setX_params (v : Byte) : (s.setX v).params = s.params := rfl

@[simp] theorem State.setY_a (v : Byte) : (s.setY v).a = s.a := rfl
@[simp] theorem State.setY_x (v : Byte) : (s.setY v).x = s.x := rfl
@[simp] theorem State.setY_y (v : Byte) : (s.setY v).y = v := rfl
@[simp] theorem State.setY_sp (v : Byte) : (s.setY v).sp = s.sp := rfl
@[simp] theorem State.setY_pc (v : Byte) : (s.setY v).pc = s.pc := rfl
@[simp] theorem State.setY_p (v : Byte) : (s.setY v).p = s.p := rfl
@[simp] theorem State.setY_mem (v : Byte) : (s.setY v).mem = s.mem := rfl
@[simp] theorem State.setY_portDdr (v : Byte) : (s.setY v).portDdr = s.portDdr := rfl
@[simp] theorem State.setY_portLatch (v : Byte) : (s.setY v).portLatch = s.portLatch := rfl
@[simp] theorem State.setY_lines (v : Byte) : (s.setY v).lines = s.lines := rfl
@[simp] theorem State.setY_schedule (v : Byte) : (s.setY v).schedule = s.schedule := rfl
@[simp] theorem State.setY_nmiPending (v : Byte) : (s.setY v).nmiPending = s.nmiPending := rfl
@[simp] theorem State.setY_irqInhibitNext (v : Byte) : (s.setY v).irqInhibitNext = s.irqInhibitNext := rfl
@[simp] theorem State.setY_answers (v : Byte) : (s.setY v).answers = s.answers := rfl
@[simp] theorem State.setY_draws (v : Byte) : (s.setY v).draws = s.draws := rfl
@[simp] theorem State.setY_trace (v : Byte) : (s.setY v).trace = s.trace := rfl
@[simp] theorem State.setY_params (v : Byte) : (s.setY v).params = s.params := rfl

@[simp] theorem State.setSp_a (v : Byte) : (s.setSp v).a = s.a := rfl
@[simp] theorem State.setSp_x (v : Byte) : (s.setSp v).x = s.x := rfl
@[simp] theorem State.setSp_y (v : Byte) : (s.setSp v).y = s.y := rfl
@[simp] theorem State.setSp_sp (v : Byte) : (s.setSp v).sp = v := rfl
@[simp] theorem State.setSp_pc (v : Byte) : (s.setSp v).pc = s.pc := rfl
@[simp] theorem State.setSp_p (v : Byte) : (s.setSp v).p = s.p := rfl
@[simp] theorem State.setSp_mem (v : Byte) : (s.setSp v).mem = s.mem := rfl
@[simp] theorem State.setSp_portDdr (v : Byte) : (s.setSp v).portDdr = s.portDdr := rfl
@[simp] theorem State.setSp_portLatch (v : Byte) : (s.setSp v).portLatch = s.portLatch := rfl
@[simp] theorem State.setSp_lines (v : Byte) : (s.setSp v).lines = s.lines := rfl
@[simp] theorem State.setSp_schedule (v : Byte) : (s.setSp v).schedule = s.schedule := rfl
@[simp] theorem State.setSp_nmiPending (v : Byte) : (s.setSp v).nmiPending = s.nmiPending := rfl
@[simp] theorem State.setSp_irqInhibitNext (v : Byte) : (s.setSp v).irqInhibitNext = s.irqInhibitNext := rfl
@[simp] theorem State.setSp_answers (v : Byte) : (s.setSp v).answers = s.answers := rfl
@[simp] theorem State.setSp_draws (v : Byte) : (s.setSp v).draws = s.draws := rfl
@[simp] theorem State.setSp_trace (v : Byte) : (s.setSp v).trace = s.trace := rfl
@[simp] theorem State.setSp_params (v : Byte) : (s.setSp v).params = s.params := rfl

@[simp] theorem State.setPc_a (v : Word) : (s.setPc v).a = s.a := rfl
@[simp] theorem State.setPc_x (v : Word) : (s.setPc v).x = s.x := rfl
@[simp] theorem State.setPc_y (v : Word) : (s.setPc v).y = s.y := rfl
@[simp] theorem State.setPc_sp (v : Word) : (s.setPc v).sp = s.sp := rfl
@[simp] theorem State.setPc_pc (v : Word) : (s.setPc v).pc = v := rfl
@[simp] theorem State.setPc_p (v : Word) : (s.setPc v).p = s.p := rfl
@[simp] theorem State.setPc_mem (v : Word) : (s.setPc v).mem = s.mem := rfl
@[simp] theorem State.setPc_portDdr (v : Word) : (s.setPc v).portDdr = s.portDdr := rfl
@[simp] theorem State.setPc_portLatch (v : Word) : (s.setPc v).portLatch = s.portLatch := rfl
@[simp] theorem State.setPc_lines (v : Word) : (s.setPc v).lines = s.lines := rfl
@[simp] theorem State.setPc_schedule (v : Word) : (s.setPc v).schedule = s.schedule := rfl
@[simp] theorem State.setPc_nmiPending (v : Word) : (s.setPc v).nmiPending = s.nmiPending := rfl
@[simp] theorem State.setPc_irqInhibitNext (v : Word) : (s.setPc v).irqInhibitNext = s.irqInhibitNext := rfl
@[simp] theorem State.setPc_answers (v : Word) : (s.setPc v).answers = s.answers := rfl
@[simp] theorem State.setPc_draws (v : Word) : (s.setPc v).draws = s.draws := rfl
@[simp] theorem State.setPc_trace (v : Word) : (s.setPc v).trace = s.trace := rfl
@[simp] theorem State.setPc_params (v : Word) : (s.setPc v).params = s.params := rfl

@[simp] theorem State.setP_a (v : Flags) : (s.setP v).a = s.a := rfl
@[simp] theorem State.setP_x (v : Flags) : (s.setP v).x = s.x := rfl
@[simp] theorem State.setP_y (v : Flags) : (s.setP v).y = s.y := rfl
@[simp] theorem State.setP_sp (v : Flags) : (s.setP v).sp = s.sp := rfl
@[simp] theorem State.setP_pc (v : Flags) : (s.setP v).pc = s.pc := rfl
@[simp] theorem State.setP_p (v : Flags) : (s.setP v).p = v := rfl
@[simp] theorem State.setP_mem (v : Flags) : (s.setP v).mem = s.mem := rfl
@[simp] theorem State.setP_portDdr (v : Flags) : (s.setP v).portDdr = s.portDdr := rfl
@[simp] theorem State.setP_portLatch (v : Flags) : (s.setP v).portLatch = s.portLatch := rfl
@[simp] theorem State.setP_lines (v : Flags) : (s.setP v).lines = s.lines := rfl
@[simp] theorem State.setP_schedule (v : Flags) : (s.setP v).schedule = s.schedule := rfl
@[simp] theorem State.setP_nmiPending (v : Flags) : (s.setP v).nmiPending = s.nmiPending := rfl
@[simp] theorem State.setP_irqInhibitNext (v : Flags) : (s.setP v).irqInhibitNext = s.irqInhibitNext := rfl
@[simp] theorem State.setP_answers (v : Flags) : (s.setP v).answers = s.answers := rfl
@[simp] theorem State.setP_draws (v : Flags) : (s.setP v).draws = s.draws := rfl
@[simp] theorem State.setP_trace (v : Flags) : (s.setP v).trace = s.trace := rfl
@[simp] theorem State.setP_params (v : Flags) : (s.setP v).params = s.params := rfl

@[simp] theorem State.setMem_a (v : Memory) : (s.setMem v).a = s.a := rfl
@[simp] theorem State.setMem_x (v : Memory) : (s.setMem v).x = s.x := rfl
@[simp] theorem State.setMem_y (v : Memory) : (s.setMem v).y = s.y := rfl
@[simp] theorem State.setMem_sp (v : Memory) : (s.setMem v).sp = s.sp := rfl
@[simp] theorem State.setMem_pc (v : Memory) : (s.setMem v).pc = s.pc := rfl
@[simp] theorem State.setMem_p (v : Memory) : (s.setMem v).p = s.p := rfl
@[simp] theorem State.setMem_mem (v : Memory) : (s.setMem v).mem = v := rfl
@[simp] theorem State.setMem_portDdr (v : Memory) : (s.setMem v).portDdr = s.portDdr := rfl
@[simp] theorem State.setMem_portLatch (v : Memory) : (s.setMem v).portLatch = s.portLatch := rfl
@[simp] theorem State.setMem_lines (v : Memory) : (s.setMem v).lines = s.lines := rfl
@[simp] theorem State.setMem_schedule (v : Memory) : (s.setMem v).schedule = s.schedule := rfl
@[simp] theorem State.setMem_nmiPending (v : Memory) : (s.setMem v).nmiPending = s.nmiPending := rfl
@[simp] theorem State.setMem_irqInhibitNext (v : Memory) : (s.setMem v).irqInhibitNext = s.irqInhibitNext := rfl
@[simp] theorem State.setMem_answers (v : Memory) : (s.setMem v).answers = s.answers := rfl
@[simp] theorem State.setMem_draws (v : Memory) : (s.setMem v).draws = s.draws := rfl
@[simp] theorem State.setMem_trace (v : Memory) : (s.setMem v).trace = s.trace := rfl
@[simp] theorem State.setMem_params (v : Memory) : (s.setMem v).params = s.params := rfl

@[simp] theorem State.setDdr_a (v : BitVec 6) : (s.setDdr v).a = s.a := rfl
@[simp] theorem State.setDdr_x (v : BitVec 6) : (s.setDdr v).x = s.x := rfl
@[simp] theorem State.setDdr_y (v : BitVec 6) : (s.setDdr v).y = s.y := rfl
@[simp] theorem State.setDdr_sp (v : BitVec 6) : (s.setDdr v).sp = s.sp := rfl
@[simp] theorem State.setDdr_pc (v : BitVec 6) : (s.setDdr v).pc = s.pc := rfl
@[simp] theorem State.setDdr_p (v : BitVec 6) : (s.setDdr v).p = s.p := rfl
@[simp] theorem State.setDdr_mem (v : BitVec 6) : (s.setDdr v).mem = s.mem := rfl
@[simp] theorem State.setDdr_portDdr (v : BitVec 6) : (s.setDdr v).portDdr = v := rfl
@[simp] theorem State.setDdr_portLatch (v : BitVec 6) : (s.setDdr v).portLatch = s.portLatch := rfl
@[simp] theorem State.setDdr_lines (v : BitVec 6) : (s.setDdr v).lines = s.lines := rfl
@[simp] theorem State.setDdr_schedule (v : BitVec 6) : (s.setDdr v).schedule = s.schedule := rfl
@[simp] theorem State.setDdr_nmiPending (v : BitVec 6) : (s.setDdr v).nmiPending = s.nmiPending := rfl
@[simp] theorem State.setDdr_irqInhibitNext (v : BitVec 6) : (s.setDdr v).irqInhibitNext = s.irqInhibitNext := rfl
@[simp] theorem State.setDdr_answers (v : BitVec 6) : (s.setDdr v).answers = s.answers := rfl
@[simp] theorem State.setDdr_draws (v : BitVec 6) : (s.setDdr v).draws = s.draws := rfl
@[simp] theorem State.setDdr_trace (v : BitVec 6) : (s.setDdr v).trace = s.trace := rfl
@[simp] theorem State.setDdr_params (v : BitVec 6) : (s.setDdr v).params = s.params := rfl

@[simp] theorem State.setLatch_a (v : BitVec 6) : (s.setLatch v).a = s.a := rfl
@[simp] theorem State.setLatch_x (v : BitVec 6) : (s.setLatch v).x = s.x := rfl
@[simp] theorem State.setLatch_y (v : BitVec 6) : (s.setLatch v).y = s.y := rfl
@[simp] theorem State.setLatch_sp (v : BitVec 6) : (s.setLatch v).sp = s.sp := rfl
@[simp] theorem State.setLatch_pc (v : BitVec 6) : (s.setLatch v).pc = s.pc := rfl
@[simp] theorem State.setLatch_p (v : BitVec 6) : (s.setLatch v).p = s.p := rfl
@[simp] theorem State.setLatch_mem (v : BitVec 6) : (s.setLatch v).mem = s.mem := rfl
@[simp] theorem State.setLatch_portDdr (v : BitVec 6) : (s.setLatch v).portDdr = s.portDdr := rfl
@[simp] theorem State.setLatch_portLatch (v : BitVec 6) : (s.setLatch v).portLatch = v := rfl
@[simp] theorem State.setLatch_lines (v : BitVec 6) : (s.setLatch v).lines = s.lines := rfl
@[simp] theorem State.setLatch_schedule (v : BitVec 6) : (s.setLatch v).schedule = s.schedule := rfl
@[simp] theorem State.setLatch_nmiPending (v : BitVec 6) : (s.setLatch v).nmiPending = s.nmiPending := rfl
@[simp] theorem State.setLatch_irqInhibitNext (v : BitVec 6) : (s.setLatch v).irqInhibitNext = s.irqInhibitNext := rfl
@[simp] theorem State.setLatch_answers (v : BitVec 6) : (s.setLatch v).answers = s.answers := rfl
@[simp] theorem State.setLatch_draws (v : BitVec 6) : (s.setLatch v).draws = s.draws := rfl
@[simp] theorem State.setLatch_trace (v : BitVec 6) : (s.setLatch v).trace = s.trace := rfl
@[simp] theorem State.setLatch_params (v : BitVec 6) : (s.setLatch v).params = s.params := rfl

@[simp] theorem State.setNmiPending_a (v : Bool) : (s.setNmiPending v).a = s.a := rfl
@[simp] theorem State.setNmiPending_x (v : Bool) : (s.setNmiPending v).x = s.x := rfl
@[simp] theorem State.setNmiPending_y (v : Bool) : (s.setNmiPending v).y = s.y := rfl
@[simp] theorem State.setNmiPending_sp (v : Bool) : (s.setNmiPending v).sp = s.sp := rfl
@[simp] theorem State.setNmiPending_pc (v : Bool) : (s.setNmiPending v).pc = s.pc := rfl
@[simp] theorem State.setNmiPending_p (v : Bool) : (s.setNmiPending v).p = s.p := rfl
@[simp] theorem State.setNmiPending_mem (v : Bool) : (s.setNmiPending v).mem = s.mem := rfl
@[simp] theorem State.setNmiPending_portDdr (v : Bool) : (s.setNmiPending v).portDdr = s.portDdr := rfl
@[simp] theorem State.setNmiPending_portLatch (v : Bool) : (s.setNmiPending v).portLatch = s.portLatch := rfl
@[simp] theorem State.setNmiPending_lines (v : Bool) : (s.setNmiPending v).lines = s.lines := rfl
@[simp] theorem State.setNmiPending_schedule (v : Bool) : (s.setNmiPending v).schedule = s.schedule := rfl
@[simp] theorem State.setNmiPending_nmiPending (v : Bool) : (s.setNmiPending v).nmiPending = v := rfl
@[simp] theorem State.setNmiPending_irqInhibitNext (v : Bool) : (s.setNmiPending v).irqInhibitNext = s.irqInhibitNext := rfl
@[simp] theorem State.setNmiPending_answers (v : Bool) : (s.setNmiPending v).answers = s.answers := rfl
@[simp] theorem State.setNmiPending_draws (v : Bool) : (s.setNmiPending v).draws = s.draws := rfl
@[simp] theorem State.setNmiPending_trace (v : Bool) : (s.setNmiPending v).trace = s.trace := rfl
@[simp] theorem State.setNmiPending_params (v : Bool) : (s.setNmiPending v).params = s.params := rfl

@[simp] theorem State.setInhibit_a (v : Bool) : (s.setInhibit v).a = s.a := rfl
@[simp] theorem State.setInhibit_x (v : Bool) : (s.setInhibit v).x = s.x := rfl
@[simp] theorem State.setInhibit_y (v : Bool) : (s.setInhibit v).y = s.y := rfl
@[simp] theorem State.setInhibit_sp (v : Bool) : (s.setInhibit v).sp = s.sp := rfl
@[simp] theorem State.setInhibit_pc (v : Bool) : (s.setInhibit v).pc = s.pc := rfl
@[simp] theorem State.setInhibit_p (v : Bool) : (s.setInhibit v).p = s.p := rfl
@[simp] theorem State.setInhibit_mem (v : Bool) : (s.setInhibit v).mem = s.mem := rfl
@[simp] theorem State.setInhibit_portDdr (v : Bool) : (s.setInhibit v).portDdr = s.portDdr := rfl
@[simp] theorem State.setInhibit_portLatch (v : Bool) : (s.setInhibit v).portLatch = s.portLatch := rfl
@[simp] theorem State.setInhibit_lines (v : Bool) : (s.setInhibit v).lines = s.lines := rfl
@[simp] theorem State.setInhibit_schedule (v : Bool) : (s.setInhibit v).schedule = s.schedule := rfl
@[simp] theorem State.setInhibit_nmiPending (v : Bool) : (s.setInhibit v).nmiPending = s.nmiPending := rfl
@[simp] theorem State.setInhibit_irqInhibitNext (v : Bool) : (s.setInhibit v).irqInhibitNext = v := rfl
@[simp] theorem State.setInhibit_answers (v : Bool) : (s.setInhibit v).answers = s.answers := rfl
@[simp] theorem State.setInhibit_draws (v : Bool) : (s.setInhibit v).draws = s.draws := rfl
@[simp] theorem State.setInhibit_trace (v : Bool) : (s.setInhibit v).trace = s.trace := rfl
@[simp] theorem State.setInhibit_params (v : Bool) : (s.setInhibit v).params = s.params := rfl

@[simp] theorem State.log_a (r : Access) : (s.log r).a = s.a := rfl
@[simp] theorem State.log_x (r : Access) : (s.log r).x = s.x := rfl
@[simp] theorem State.log_y (r : Access) : (s.log r).y = s.y := rfl
@[simp] theorem State.log_sp (r : Access) : (s.log r).sp = s.sp := rfl
@[simp] theorem State.log_pc (r : Access) : (s.log r).pc = s.pc := rfl
@[simp] theorem State.log_p (r : Access) : (s.log r).p = s.p := rfl
@[simp] theorem State.log_mem (r : Access) : (s.log r).mem = s.mem := rfl
@[simp] theorem State.log_portDdr (r : Access) : (s.log r).portDdr = s.portDdr := rfl
@[simp] theorem State.log_portLatch (r : Access) : (s.log r).portLatch = s.portLatch := rfl
@[simp] theorem State.log_lines (r : Access) : (s.log r).lines = s.lines := rfl
@[simp] theorem State.log_schedule (r : Access) : (s.log r).schedule = s.schedule := rfl
@[simp] theorem State.log_nmiPending (r : Access) : (s.log r).nmiPending = s.nmiPending := rfl
@[simp] theorem State.log_irqInhibitNext (r : Access) : (s.log r).irqInhibitNext = s.irqInhibitNext := rfl
@[simp] theorem State.log_answers (r : Access) : (s.log r).answers = s.answers := rfl
@[simp] theorem State.log_draws (r : Access) : (s.log r).draws = s.draws := rfl
@[simp] theorem State.log_trace (r : Access) : (s.log r).trace = r :: s.trace := rfl
@[simp] theorem State.log_params (r : Access) : (s.log r).params = s.params := rfl

@[simp] theorem State.setI_a (v : Bool) : (s.setI v).a = s.a := rfl
@[simp] theorem State.setI_x (v : Bool) : (s.setI v).x = s.x := rfl
@[simp] theorem State.setI_y (v : Bool) : (s.setI v).y = s.y := rfl
@[simp] theorem State.setI_sp (v : Bool) : (s.setI v).sp = s.sp := rfl
@[simp] theorem State.setI_pc (v : Bool) : (s.setI v).pc = s.pc := rfl
@[simp] theorem State.setI_p (v : Bool) : (s.setI v).p = { s.p with i := v } := rfl
@[simp] theorem State.setI_mem (v : Bool) : (s.setI v).mem = s.mem := rfl
@[simp] theorem State.setI_portDdr (v : Bool) : (s.setI v).portDdr = s.portDdr := rfl
@[simp] theorem State.setI_portLatch (v : Bool) : (s.setI v).portLatch = s.portLatch := rfl
@[simp] theorem State.setI_lines (v : Bool) : (s.setI v).lines = s.lines := rfl
@[simp] theorem State.setI_schedule (v : Bool) : (s.setI v).schedule = s.schedule := rfl
@[simp] theorem State.setI_nmiPending (v : Bool) : (s.setI v).nmiPending = s.nmiPending := rfl
@[simp] theorem State.setI_irqInhibitNext (v : Bool) : (s.setI v).irqInhibitNext = s.irqInhibitNext := rfl
@[simp] theorem State.setI_answers (v : Bool) : (s.setI v).answers = s.answers := rfl
@[simp] theorem State.setI_draws (v : Bool) : (s.setI v).draws = s.draws := rfl
@[simp] theorem State.setI_trace (v : Bool) : (s.setI v).trace = s.trace := rfl
@[simp] theorem State.setI_params (v : Bool) : (s.setI v).params = s.params := rfl

@[simp] theorem State.advance_a (n : Nat) : (s.advance n).a = s.a := rfl
@[simp] theorem State.advance_x (n : Nat) : (s.advance n).x = s.x := rfl
@[simp] theorem State.advance_y (n : Nat) : (s.advance n).y = s.y := rfl
@[simp] theorem State.advance_sp (n : Nat) : (s.advance n).sp = s.sp := rfl
@[simp] theorem State.advance_pc (n : Nat) : (s.advance n).pc = s.pc + BitVec.ofNat 16 n := rfl
@[simp] theorem State.advance_p (n : Nat) : (s.advance n).p = s.p := rfl
@[simp] theorem State.advance_mem (n : Nat) : (s.advance n).mem = s.mem := rfl
@[simp] theorem State.advance_portDdr (n : Nat) : (s.advance n).portDdr = s.portDdr := rfl
@[simp] theorem State.advance_portLatch (n : Nat) : (s.advance n).portLatch = s.portLatch := rfl
@[simp] theorem State.advance_lines (n : Nat) : (s.advance n).lines = s.lines := rfl
@[simp] theorem State.advance_schedule (n : Nat) : (s.advance n).schedule = s.schedule := rfl
@[simp] theorem State.advance_nmiPending (n : Nat) : (s.advance n).nmiPending = s.nmiPending := rfl
@[simp] theorem State.advance_irqInhibitNext (n : Nat) : (s.advance n).irqInhibitNext = s.irqInhibitNext := rfl
@[simp] theorem State.advance_answers (n : Nat) : (s.advance n).answers = s.answers := rfl
@[simp] theorem State.advance_draws (n : Nat) : (s.advance n).draws = s.draws := rfl
@[simp] theorem State.advance_trace (n : Nat) : (s.advance n).trace = s.trace := rfl
@[simp] theorem State.advance_params (n : Nat) : (s.advance n).params = s.params := rfl

@[simp] theorem State.setA_peek (v : Byte) (addr : Word) : (s.setA v).peek addr = s.peek addr := rfl
@[simp] theorem State.setX_peek (v : Byte) (addr : Word) : (s.setX v).peek addr = s.peek addr := rfl
@[simp] theorem State.setY_peek (v : Byte) (addr : Word) : (s.setY v).peek addr = s.peek addr := rfl
@[simp] theorem State.setSp_peek (v : Byte) (addr : Word) : (s.setSp v).peek addr = s.peek addr := rfl
@[simp] theorem State.setPc_peek (v : Word) (addr : Word) : (s.setPc v).peek addr = s.peek addr := rfl
@[simp] theorem State.setP_peek (v : Flags) (addr : Word) : (s.setP v).peek addr = s.peek addr := rfl
@[simp] theorem State.setDdr_peek (v : BitVec 6) (addr : Word) : (s.setDdr v).peek addr = s.peek addr := rfl
@[simp] theorem State.setLatch_peek (v : BitVec 6) (addr : Word) : (s.setLatch v).peek addr = s.peek addr := rfl
@[simp] theorem State.setNmiPending_peek (v : Bool) (addr : Word) : (s.setNmiPending v).peek addr = s.peek addr := rfl
@[simp] theorem State.setInhibit_peek (v : Bool) (addr : Word) : (s.setInhibit v).peek addr = s.peek addr := rfl
@[simp] theorem State.log_peek (r : Access) (addr : Word) : (s.log r).peek addr = s.peek addr := rfl
@[simp] theorem State.setI_peek (v : Bool) (addr : Word) : (s.setI v).peek addr = s.peek addr := rfl
@[simp] theorem State.advance_peek (n : Nat) (addr : Word) : (s.advance n).peek addr = s.peek addr := rfl

/-- A state is its fields. -/
theorem State.ext_fields {s t : State} (h : s.a = t.a ∧ s.x = t.x ∧ s.y = t.y ∧ s.sp = t.sp ∧ s.pc = t.pc ∧ s.p = t.p ∧
    s.mem = t.mem ∧ s.portDdr = t.portDdr ∧ s.portLatch = t.portLatch ∧ s.lines = t.lines ∧ s.schedule = t.schedule ∧
    s.nmiPending = t.nmiPending ∧ s.irqInhibitNext = t.irqInhibitNext ∧ s.answers = t.answers ∧ s.draws = t.draws ∧
    s.trace = t.trace ∧ s.params = t.params) : s = t := by
  cases s; cases t; simp only at h; simp [h]

end Sys2Proof.Machine
end

