-- ==== Sys2Proof/Laws/Ops.lean ====
section
/-! SUPPORT. What each shared operation can do, said once: a read changes only the record and the environment's
bookkeeping; a write changes memory at its own address or a port register; the stack operations add S. -/

namespace Sys2Proof.Machine

open Sys2Proof

/-! ### Reads -/

/-- What a draw does. -/
theorem State.draw_spec (s : State) : ∃ ans n, s.draw.2 = { s with answers := ans, draws := n } := by
  unfold State.draw
  split
  · exact ⟨_, s.draws, rfl⟩
  · exact ⟨s.answers, _, rfl⟩

/-- What the answer to a read does. -/
theorem State.answer_spec (s : State) (addr : Word) :
    ∃ ans n, (s.answer addr).2 = { s with answers := ans, draws := n } := by
  unfold State.answer
  split
  · exact s.draw_spec
  · exact s.draw_spec
  · exact ⟨s.answers, s.draws, rfl⟩
  · exact ⟨s.answers, s.draws, rfl⟩
  · exact s.draw_spec
  · exact s.draw_spec

/-- Everything a read can do: it is recorded, and the environment may have answered. -/
theorem State.load_spec (s : State) (addr : Word) :
    ∃ ans n, (s.load addr).2 =
      { s with answers := ans, draws := n, trace := .read addr (s.load addr).1 :: s.trace } := by
  obtain ⟨ans, n, h⟩ := s.answer_spec addr
  exact ⟨ans, n, by simp [State.load, State.log, h]⟩

/-- A read of RAM or ROM gives the contents and asks nothing of the environment (20_memory.md R57). -/
theorem State.load_plain {s : State} {addr : Word}
    (h : targetOf s.params addr = .region .ram ∨ targetOf s.params addr = .region .rom) :
    s.load addr = (s.peek addr, s.log (.read addr (s.peek addr))) := by
  rcases h with h | h <;> simp [State.load, State.answer, h]

@[simp] theorem State.load_a (s : State) (addr : Word) : (s.load addr).2.a = s.a := by
  obtain ⟨_, _, h⟩ := s.load_spec addr; rw [h]
@[simp] theorem State.load_x (s : State) (addr : Word) : (s.load addr).2.x = s.x := by
  obtain ⟨_, _, h⟩ := s.load_spec addr; rw [h]
@[simp] theorem State.load_y (s : State) (addr : Word) : (s.load addr).2.y = s.y := by
  obtain ⟨_, _, h⟩ := s.load_spec addr; rw [h]
@[simp] theorem State.load_sp (s : State) (addr : Word) : (s.load addr).2.sp = s.sp := by
  obtain ⟨_, _, h⟩ := s.load_spec addr; rw [h]
@[simp] theorem State.load_pc (s : State) (addr : Word) : (s.load addr).2.pc = s.pc := by
  obtain ⟨_, _, h⟩ := s.load_spec addr; rw [h]
@[simp] theorem State.load_p (s : State) (addr : Word) : (s.load addr).2.p = s.p := by
  obtain ⟨_, _, h⟩ := s.load_spec addr; rw [h]
@[simp] theorem State.load_mem (s : State) (addr : Word) : (s.load addr).2.mem = s.mem := by
  obtain ⟨_, _, h⟩ := s.load_spec addr; rw [h]
@[simp] theorem State.load_portDdr (s : State) (addr : Word) : (s.load addr).2.portDdr = s.portDdr := by
  obtain ⟨_, _, h⟩ := s.load_spec addr; rw [h]
@[simp] theorem State.load_portLatch (s : State) (addr : Word) : (s.load addr).2.portLatch = s.portLatch := by
  obtain ⟨_, _, h⟩ := s.load_spec addr; rw [h]
@[simp] theorem State.load_lines (s : State) (addr : Word) : (s.load addr).2.lines = s.lines := by
  obtain ⟨_, _, h⟩ := s.load_spec addr; rw [h]
@[simp] theorem State.load_schedule (s : State) (addr : Word) : (s.load addr).2.schedule = s.schedule := by
  obtain ⟨_, _, h⟩ := s.load_spec addr; rw [h]
@[simp] theorem State.load_nmiPending (s : State) (addr : Word) : (s.load addr).2.nmiPending = s.nmiPending := by
  obtain ⟨_, _, h⟩ := s.load_spec addr; rw [h]
@[simp] theorem State.load_irqInhibitNext (s : State) (addr : Word) : (s.load addr).2.irqInhibitNext = s.irqInhibitNext := by
  obtain ⟨_, _, h⟩ := s.load_spec addr; rw [h]
@[simp] theorem State.load_params (s : State) (addr : Word) : (s.load addr).2.params = s.params := by
  obtain ⟨_, _, h⟩ := s.load_spec addr; rw [h]
@[simp] theorem State.load_trace (s : State) (addr : Word) :
    (s.load addr).2.trace = .read addr (s.load addr).1 :: s.trace := by
  obtain ⟨_, _, h⟩ := s.load_spec addr; rw [h]
@[simp] theorem State.load_peek (s : State) (addr b : Word) : (s.load addr).2.peek b = s.peek b := by
  simp [State.peek]

@[simp] theorem State.loadWord_a (s : State) (addr : Word) : (s.loadWord addr).2.a = s.a := by simp [State.loadWord]
@[simp] theorem State.loadWord_x (s : State) (addr : Word) : (s.loadWord addr).2.x = s.x := by simp [State.loadWord]
@[simp] theorem State.loadWord_y (s : State) (addr : Word) : (s.loadWord addr).2.y = s.y := by simp [State.loadWord]
@[simp] theorem State.loadWord_sp (s : State) (addr : Word) : (s.loadWord addr).2.sp = s.sp := by simp [State.loadWord]
@[simp] theorem State.loadWord_pc (s : State) (addr : Word) : (s.loadWord addr).2.pc = s.pc := by simp [State.loadWord]
@[simp] theorem State.loadWord_p (s : State) (addr : Word) : (s.loadWord addr).2.p = s.p := by simp [State.loadWord]
@[simp] theorem State.loadWord_mem (s : State) (addr : Word) : (s.loadWord addr).2.mem = s.mem := by simp [State.loadWord]
@[simp] theorem State.loadWord_portDdr (s : State) (addr : Word) : (s.loadWord addr).2.portDdr = s.portDdr := by simp [State.loadWord]
@[simp] theorem State.loadWord_portLatch (s : State) (addr : Word) : (s.loadWord addr).2.portLatch = s.portLatch := by simp [State.loadWord]
@[simp] theorem State.loadWord_lines (s : State) (addr : Word) : (s.loadWord addr).2.lines = s.lines := by simp [State.loadWord]
@[simp] theorem State.loadWord_schedule (s : State) (addr : Word) : (s.loadWord addr).2.schedule = s.schedule := by simp [State.loadWord]
@[simp] theorem State.loadWord_nmiPending (s : State) (addr : Word) : (s.loadWord addr).2.nmiPending = s.nmiPending := by simp [State.loadWord]
@[simp] theorem State.loadWord_irqInhibitNext (s : State) (addr : Word) : (s.loadWord addr).2.irqInhibitNext = s.irqInhibitNext := by simp [State.loadWord]
@[simp] theorem State.loadWord_params (s : State) (addr : Word) : (s.loadWord addr).2.params = s.params := by simp [State.loadWord]
@[simp] theorem State.loadWord_peek (s : State) (addr : Word) (b : Word) : (s.loadWord addr).2.peek b = s.peek b := by simp [State.loadWord]

@[simp] theorem State.loadZpWord_a (s : State) (z : Byte) : (s.loadZpWord z).2.a = s.a := by simp [State.loadZpWord]
@[simp] theorem State.loadZpWord_x (s : State) (z : Byte) : (s.loadZpWord z).2.x = s.x := by simp [State.loadZpWord]
@[simp] theorem State.loadZpWord_y (s : State) (z : Byte) : (s.loadZpWord z).2.y = s.y := by simp [State.loadZpWord]
@[simp] theorem State.loadZpWord_sp (s : State) (z : Byte) : (s.loadZpWord z).2.sp = s.sp := by simp [State.loadZpWord]
@[simp] theorem State.loadZpWord_pc (s : State) (z : Byte) : (s.loadZpWord z).2.pc = s.pc := by simp [State.loadZpWord]
@[simp] theorem State.loadZpWord_p (s : State) (z : Byte) : (s.loadZpWord z).2.p = s.p := by simp [State.loadZpWord]
@[simp] theorem State.loadZpWord_mem (s : State) (z : Byte) : (s.loadZpWord z).2.mem = s.mem := by simp [State.loadZpWord]
@[simp] theorem State.loadZpWord_portDdr (s : State) (z : Byte) : (s.loadZpWord z).2.portDdr = s.portDdr := by simp [State.loadZpWord]
@[simp] theorem State.loadZpWord_portLatch (s : State) (z : Byte) : (s.loadZpWord z).2.portLatch = s.portLatch := by simp [State.loadZpWord]
@[simp] theorem State.loadZpWord_lines (s : State) (z : Byte) : (s.loadZpWord z).2.lines = s.lines := by simp [State.loadZpWord]
@[simp] theorem State.loadZpWord_schedule (s : State) (z : Byte) : (s.loadZpWord z).2.schedule = s.schedule := by simp [State.loadZpWord]
@[simp] theorem State.loadZpWord_nmiPending (s : State) (z : Byte) : (s.loadZpWord z).2.nmiPending = s.nmiPending := by simp [State.loadZpWord]
@[simp] theorem State.loadZpWord_irqInhibitNext (s : State) (z : Byte) : (s.loadZpWord z).2.irqInhibitNext = s.irqInhibitNext := by simp [State.loadZpWord]
@[simp] theorem State.loadZpWord_params (s : State) (z : Byte) : (s.loadZpWord z).2.params = s.params := by simp [State.loadZpWord]
@[simp] theorem State.loadZpWord_peek (s : State) (z : Byte) (b : Word) : (s.loadZpWord z).2.peek b = s.peek b := by simp [State.loadZpWord]

@[simp] theorem State.loadIndirect_a (s : State) (w : Word) : (s.loadIndirect w).2.a = s.a := by simp [State.loadIndirect]
@[simp] theorem State.loadIndirect_x (s : State) (w : Word) : (s.loadIndirect w).2.x = s.x := by simp [State.loadIndirect]
@[simp] theorem State.loadIndirect_y (s : State) (w : Word) : (s.loadIndirect w).2.y = s.y := by simp [State.loadIndirect]
@[simp] theorem State.loadIndirect_sp (s : State) (w : Word) : (s.loadIndirect w).2.sp = s.sp := by simp [State.loadIndirect]
@[simp] theorem State.loadIndirect_pc (s : State) (w : Word) : (s.loadIndirect w).2.pc = s.pc := by simp [State.loadIndirect]
@[simp] theorem State.loadIndirect_p (s : State) (w : Word) : (s.loadIndirect w).2.p = s.p := by simp [State.loadIndirect]
@[simp] theorem State.loadIndirect_mem (s : State) (w : Word) : (s.loadIndirect w).2.mem = s.mem := by simp [State.loadIndirect]
@[simp] theorem State.loadIndirect_portDdr (s : State) (w : Word) : (s.loadIndirect w).2.portDdr = s.portDdr := by simp [State.loadIndirect]
@[simp] theorem State.loadIndirect_portLatch (s : State) (w : Word) : (s.loadIndirect w).2.portLatch = s.portLatch := by simp [State.loadIndirect]
@[simp] theorem State.loadIndirect_lines (s : State) (w : Word) : (s.loadIndirect w).2.lines = s.lines := by simp [State.loadIndirect]
@[simp] theorem State.loadIndirect_schedule (s : State) (w : Word) : (s.loadIndirect w).2.schedule = s.schedule := by simp [State.loadIndirect]
@[simp] theorem State.loadIndirect_nmiPending (s : State) (w : Word) : (s.loadIndirect w).2.nmiPending = s.nmiPending := by simp [State.loadIndirect]
@[simp] theorem State.loadIndirect_irqInhibitNext (s : State) (w : Word) : (s.loadIndirect w).2.irqInhibitNext = s.irqInhibitNext := by simp [State.loadIndirect]
@[simp] theorem State.loadIndirect_params (s : State) (w : Word) : (s.loadIndirect w).2.params = s.params := by simp [State.loadIndirect]
@[simp] theorem State.loadIndirect_peek (s : State) (w : Word) (b : Word) : (s.loadIndirect w).2.peek b = s.peek b := by simp [State.loadIndirect]

@[simp] theorem ea_a (m : MemMode) (s : State) : (ea m s).2.a = s.a := by cases m <;> simp [ea]
@[simp] theorem ea_x (m : MemMode) (s : State) : (ea m s).2.x = s.x := by cases m <;> simp [ea]
@[simp] theorem ea_y (m : MemMode) (s : State) : (ea m s).2.y = s.y := by cases m <;> simp [ea]
@[simp] theorem ea_sp (m : MemMode) (s : State) : (ea m s).2.sp = s.sp := by cases m <;> simp [ea]
@[simp] theorem ea_pc (m : MemMode) (s : State) : (ea m s).2.pc = s.pc := by cases m <;> simp [ea]
@[simp] theorem ea_p (m : MemMode) (s : State) : (ea m s).2.p = s.p := by cases m <;> simp [ea]
@[simp] theorem ea_mem (m : MemMode) (s : State) : (ea m s).2.mem = s.mem := by cases m <;> simp [ea]
@[simp] theorem ea_portDdr (m : MemMode) (s : State) : (ea m s).2.portDdr = s.portDdr := by cases m <;> simp [ea]
@[simp] theorem ea_portLatch (m : MemMode) (s : State) : (ea m s).2.portLatch = s.portLatch := by cases m <;> simp [ea]
@[simp] theorem ea_lines (m : MemMode) (s : State) : (ea m s).2.lines = s.lines := by cases m <;> simp [ea]
@[simp] theorem ea_schedule (m : MemMode) (s : State) : (ea m s).2.schedule = s.schedule := by cases m <;> simp [ea]
@[simp] theorem ea_nmiPending (m : MemMode) (s : State) : (ea m s).2.nmiPending = s.nmiPending := by cases m <;> simp [ea]
@[simp] theorem ea_irqInhibitNext (m : MemMode) (s : State) : (ea m s).2.irqInhibitNext = s.irqInhibitNext := by cases m <;> simp [ea]
@[simp] theorem ea_params (m : MemMode) (s : State) : (ea m s).2.params = s.params := by cases m <;> simp [ea]
@[simp] theorem ea_peek (m : MemMode) (s : State) (b : Word) : (ea m s).2.peek b = s.peek b := by simp [State.peek]

@[simp] theorem fetchOperand_a (m : MemMode) (s : State) : (fetchOperand m s).2.a = s.a := by simp [fetchOperand]
@[simp] theorem fetchOperand_x (m : MemMode) (s : State) : (fetchOperand m s).2.x = s.x := by simp [fetchOperand]
@[simp] theorem fetchOperand_y (m : MemMode) (s : State) : (fetchOperand m s).2.y = s.y := by simp [fetchOperand]
@[simp] theorem fetchOperand_sp (m : MemMode) (s : State) : (fetchOperand m s).2.sp = s.sp := by simp [fetchOperand]
@[simp] theorem fetchOperand_pc (m : MemMode) (s : State) : (fetchOperand m s).2.pc = s.pc := by simp [fetchOperand]
@[simp] theorem fetchOperand_p (m : MemMode) (s : State) : (fetchOperand m s).2.p = s.p := by simp [fetchOperand]
@[simp] theorem fetchOperand_mem (m : MemMode) (s : State) : (fetchOperand m s).2.mem = s.mem := by simp [fetchOperand]
@[simp] theorem fetchOperand_portDdr (m : MemMode) (s : State) : (fetchOperand m s).2.portDdr = s.portDdr := by simp [fetchOperand]
@[simp] theorem fetchOperand_portLatch (m : MemMode) (s : State) : (fetchOperand m s).2.portLatch = s.portLatch := by simp [fetchOperand]
@[simp] theorem fetchOperand_lines (m : MemMode) (s : State) : (fetchOperand m s).2.lines = s.lines := by simp [fetchOperand]
@[simp] theorem fetchOperand_schedule (m : MemMode) (s : State) : (fetchOperand m s).2.schedule = s.schedule := by simp [fetchOperand]
@[simp] theorem fetchOperand_nmiPending (m : MemMode) (s : State) : (fetchOperand m s).2.nmiPending = s.nmiPending := by simp [fetchOperand]
@[simp] theorem fetchOperand_irqInhibitNext (m : MemMode) (s : State) : (fetchOperand m s).2.irqInhibitNext = s.irqInhibitNext := by simp [fetchOperand]
@[simp] theorem fetchOperand_params (m : MemMode) (s : State) : (fetchOperand m s).2.params = s.params := by simp [fetchOperand]
@[simp] theorem fetchOperand_peek (m : MemMode) (s : State) (b : Word) : (fetchOperand m s).2.peek b = s.peek b := by
  simp [fetchOperand]
@[simp] theorem fetchOperand_trace (m : MemMode) (s : State) :
    (fetchOperand m s).2.trace = .read (ea m s).1 (fetchOperand m s).1 :: (ea m s).2.trace := by simp [fetchOperand]

/-! ### Writes -/

/-- Everything a write can do: memory at its address, or a port register, and the record. -/
theorem State.store_spec (s : State) (addr : Word) (v : Byte) :
    ∃ mem ddr latch, s.store addr v =
      { s with mem := mem, portDdr := ddr, portLatch := latch, trace := .write addr v :: s.trace } ∧
      (mem = s.mem ∨ (targetOf s.params addr = .region .ram ∧ mem = s.mem.put addr.toNat v)) ∧
      (ddr = s.portDdr ∨ targetOf s.params addr = .ddr) ∧ (latch = s.portLatch ∨ targetOf s.params addr = .data) := by
  unfold State.store State.accept
  split <;> rename_i h
  · exact ⟨_, _, _, rfl, .inl rfl, .inr h, .inl rfl⟩
  · exact ⟨_, _, _, rfl, .inl rfl, .inl rfl, .inr h⟩
  · exact ⟨_, _, _, rfl, .inr ⟨h, rfl⟩, .inl rfl, .inl rfl⟩
  · exact ⟨_, _, _, rfl, .inl rfl, .inl rfl, .inl rfl⟩
  · exact ⟨_, _, _, rfl, .inl rfl, .inl rfl, .inl rfl⟩
  · exact ⟨_, _, _, rfl, .inl rfl, .inl rfl, .inl rfl⟩

@[simp] theorem State.store_a (s : State) (addr : Word) (v : Byte) : (s.store addr v).a = s.a := by
  obtain ⟨_, _, _, h, _⟩ := s.store_spec addr v; rw [h]
@[simp] theorem State.store_x (s : State) (addr : Word) (v : Byte) : (s.store addr v).x = s.x := by
  obtain ⟨_, _, _, h, _⟩ := s.store_spec addr v; rw [h]
@[simp] theorem State.store_y (s : State) (addr : Word) (v : Byte) : (s.store addr v).y = s.y := by
  obtain ⟨_, _, _, h, _⟩ := s.store_spec addr v; rw [h]
@[simp] theorem State.store_sp (s : State) (addr : Word) (v : Byte) : (s.store addr v).sp = s.sp := by
  obtain ⟨_, _, _, h, _⟩ := s.store_spec addr v; rw [h]
@[simp] theorem State.store_pc (s : State) (addr : Word) (v : Byte) : (s.store addr v).pc = s.pc := by
  obtain ⟨_, _, _, h, _⟩ := s.store_spec addr v; rw [h]
@[simp] theorem State.store_p (s : State) (addr : Word) (v : Byte) : (s.store addr v).p = s.p := by
  obtain ⟨_, _, _, h, _⟩ := s.store_spec addr v; rw [h]
@[simp] theorem State.store_lines (s : State) (addr : Word) (v : Byte) : (s.store addr v).lines = s.lines := by
  obtain ⟨_, _, _, h, _⟩ := s.store_spec addr v; rw [h]
@[simp] theorem State.store_schedule (s : State) (addr : Word) (v : Byte) : (s.store addr v).schedule = s.schedule := by
  obtain ⟨_, _, _, h, _⟩ := s.store_spec addr v; rw [h]
@[simp] theorem State.store_nmiPending (s : State) (addr : Word) (v : Byte) : (s.store addr v).nmiPending = s.nmiPending := by
  obtain ⟨_, _, _, h, _⟩ := s.store_spec addr v; rw [h]
@[simp] theorem State.store_irqInhibitNext (s : State) (addr : Word) (v : Byte) : (s.store addr v).irqInhibitNext = s.irqInhibitNext := by
  obtain ⟨_, _, _, h, _⟩ := s.store_spec addr v; rw [h]
@[simp] theorem State.store_answers (s : State) (addr : Word) (v : Byte) : (s.store addr v).answers = s.answers := by
  obtain ⟨_, _, _, h, _⟩ := s.store_spec addr v; rw [h]
@[simp] theorem State.store_draws (s : State) (addr : Word) (v : Byte) : (s.store addr v).draws = s.draws := by
  obtain ⟨_, _, _, h, _⟩ := s.store_spec addr v; rw [h]
@[simp] theorem State.store_params (s : State) (addr : Word) (v : Byte) : (s.store addr v).params = s.params := by
  obtain ⟨_, _, _, h, _⟩ := s.store_spec addr v; rw [h]
@[simp] theorem State.store_trace (s : State) (addr : Word) (v : Byte) :
    (s.store addr v).trace = .write addr v :: s.trace := by
  obtain ⟨_, _, _, h, _⟩ := s.store_spec addr v; rw [h]

/-- A write leaves every other address alone. -/
theorem State.store_peek_other (s : State) {addr b : Word} (v : Byte) (h : b ≠ addr) :
    (s.store addr v).peek b = s.peek b := by
  obtain ⟨mem, _, _, hs, hm, _⟩ := s.store_spec addr v
  rw [State.peek, hs]
  rcases hm with hm | ⟨_, hm⟩
  · simp [hm, State.peek]
  · simpa [hm, State.peek] using Memory.byteAt_put_other _ v fun e => h (BitVec.eq_of_toNat_eq e)

/-- A write to RAM is read back (20_memory.md R60). -/
theorem State.store_peek_ram {s : State} {addr : Word} (v : Byte) (h : targetOf s.params addr = .region .ram) :
    (s.store addr v).peek addr = v := by
  simp [State.store, State.accept, h, State.peek]

/-- A write keeps memory's canonical form. -/
theorem State.store_wf {s : State} (addr : Word) (v : Byte) (hw : s.mem.wf) : (s.store addr v).mem.wf := by
  obtain ⟨mem, _, _, hs, hm, _⟩ := s.store_spec addr v
  rw [hs]
  rcases hm with hm | ⟨_, hm⟩
  · simpa [hm] using hw
  · simpa [hm] using Memory.put_wf v addr.isLt hw

/-! ### The stack -/

@[simp] theorem State.push_a (s : State) (v : Byte) : (s.push v).a = s.a := by simp [State.push]
@[simp] theorem State.push_x (s : State) (v : Byte) : (s.push v).x = s.x := by simp [State.push]
@[simp] theorem State.push_y (s : State) (v : Byte) : (s.push v).y = s.y := by simp [State.push]
@[simp] theorem State.push_pc (s : State) (v : Byte) : (s.push v).pc = s.pc := by simp [State.push]
@[simp] theorem State.push_p (s : State) (v : Byte) : (s.push v).p = s.p := by simp [State.push]
@[simp] theorem State.push_lines (s : State) (v : Byte) : (s.push v).lines = s.lines := by simp [State.push]
@[simp] theorem State.push_schedule (s : State) (v : Byte) : (s.push v).schedule = s.schedule := by simp [State.push]
@[simp] theorem State.push_nmiPending (s : State) (v : Byte) : (s.push v).nmiPending = s.nmiPending := by simp [State.push]
@[simp] theorem State.push_irqInhibitNext (s : State) (v : Byte) : (s.push v).irqInhibitNext = s.irqInhibitNext := by simp [State.push]
@[simp] theorem State.push_answers (s : State) (v : Byte) : (s.push v).answers = s.answers := by simp [State.push]
@[simp] theorem State.push_draws (s : State) (v : Byte) : (s.push v).draws = s.draws := by simp [State.push]
@[simp] theorem State.push_params (s : State) (v : Byte) : (s.push v).params = s.params := by simp [State.push]
@[simp] theorem State.push_sp (s : State) (v : Byte) : (s.push v).sp = s.sp - 1 := rfl
@[simp] theorem State.push_trace (s : State) (v : Byte) :
    (s.push v).trace = .write (stackAddr s.sp) v :: s.trace := by simp [State.push]

@[simp] theorem State.pushWord_a (s : State) (w : Word) : (s.pushWord w).a = s.a := by simp [State.pushWord]
@[simp] theorem State.pushWord_x (s : State) (w : Word) : (s.pushWord w).x = s.x := by simp [State.pushWord]
@[simp] theorem State.pushWord_y (s : State) (w : Word) : (s.pushWord w).y = s.y := by simp [State.pushWord]
@[simp] theorem State.pushWord_pc (s : State) (w : Word) : (s.pushWord w).pc = s.pc := by simp [State.pushWord]
@[simp] theorem State.pushWord_p (s : State) (w : Word) : (s.pushWord w).p = s.p := by simp [State.pushWord]
@[simp] theorem State.pushWord_lines (s : State) (w : Word) : (s.pushWord w).lines = s.lines := by simp [State.pushWord]
@[simp] theorem State.pushWord_schedule (s : State) (w : Word) : (s.pushWord w).schedule = s.schedule := by simp [State.pushWord]
@[simp] theorem State.pushWord_nmiPending (s : State) (w : Word) : (s.pushWord w).nmiPending = s.nmiPending := by simp [State.pushWord]
@[simp] theorem State.pushWord_irqInhibitNext (s : State) (w : Word) : (s.pushWord w).irqInhibitNext = s.irqInhibitNext := by simp [State.pushWord]
@[simp] theorem State.pushWord_answers (s : State) (w : Word) : (s.pushWord w).answers = s.answers := by simp [State.pushWord]
@[simp] theorem State.pushWord_draws (s : State) (w : Word) : (s.pushWord w).draws = s.draws := by simp [State.pushWord]
@[simp] theorem State.pushWord_params (s : State) (w : Word) : (s.pushWord w).params = s.params := by simp [State.pushWord]
@[simp] theorem State.pushWord_sp (s : State) (w : Word) : (s.pushWord w).sp = s.sp - 2 := by
  simp [State.pushWord]; bv_omega

@[simp] theorem State.pull_a (s : State) : s.pull.2.a = s.a := by simp [State.pull]
@[simp] theorem State.pull_x (s : State) : s.pull.2.x = s.x := by simp [State.pull]
@[simp] theorem State.pull_y (s : State) : s.pull.2.y = s.y := by simp [State.pull]
@[simp] theorem State.pull_pc (s : State) : s.pull.2.pc = s.pc := by simp [State.pull]
@[simp] theorem State.pull_p (s : State) : s.pull.2.p = s.p := by simp [State.pull]
@[simp] theorem State.pull_mem (s : State) : s.pull.2.mem = s.mem := by simp [State.pull]
@[simp] theorem State.pull_portDdr (s : State) : s.pull.2.portDdr = s.portDdr := by simp [State.pull]
@[simp] theorem State.pull_portLatch (s : State) : s.pull.2.portLatch = s.portLatch := by simp [State.pull]
@[simp] theorem State.pull_lines (s : State) : s.pull.2.lines = s.lines := by simp [State.pull]
@[simp] theorem State.pull_schedule (s : State) : s.pull.2.schedule = s.schedule := by simp [State.pull]
@[simp] theorem State.pull_nmiPending (s : State) : s.pull.2.nmiPending = s.nmiPending := by simp [State.pull]
@[simp] theorem State.pull_irqInhibitNext (s : State) : s.pull.2.irqInhibitNext = s.irqInhibitNext := by simp [State.pull]
@[simp] theorem State.pull_params (s : State) : s.pull.2.params = s.params := by simp [State.pull]
@[simp] theorem State.pull_sp (s : State) : s.pull.2.sp = s.sp + 1 := by simp [State.pull]
@[simp] theorem State.pull_peek (s : State) (b : Word) : s.pull.2.peek b = s.peek b := by simp [State.pull]
@[simp] theorem State.pull_trace (s : State) :
    s.pull.2.trace = .read (stackAddr (s.sp + 1)) s.pull.1 :: s.trace := by simp [State.pull]

@[simp] theorem State.pullWord_a (s : State) : s.pullWord.2.a = s.a := by simp [State.pullWord]
@[simp] theorem State.pullWord_x (s : State) : s.pullWord.2.x = s.x := by simp [State.pullWord]
@[simp] theorem State.pullWord_y (s : State) : s.pullWord.2.y = s.y := by simp [State.pullWord]
@[simp] theorem State.pullWord_pc (s : State) : s.pullWord.2.pc = s.pc := by simp [State.pullWord]
@[simp] theorem State.pullWord_p (s : State) : s.pullWord.2.p = s.p := by simp [State.pullWord]
@[simp] theorem State.pullWord_mem (s : State) : s.pullWord.2.mem = s.mem := by simp [State.pullWord]
@[simp] theorem State.pullWord_portDdr (s : State) : s.pullWord.2.portDdr = s.portDdr := by simp [State.pullWord]
@[simp] theorem State.pullWord_portLatch (s : State) : s.pullWord.2.portLatch = s.portLatch := by simp [State.pullWord]
@[simp] theorem State.pullWord_lines (s : State) : s.pullWord.2.lines = s.lines := by simp [State.pullWord]
@[simp] theorem State.pullWord_schedule (s : State) : s.pullWord.2.schedule = s.schedule := by simp [State.pullWord]
@[simp] theorem State.pullWord_nmiPending (s : State) : s.pullWord.2.nmiPending = s.nmiPending := by simp [State.pullWord]
@[simp] theorem State.pullWord_irqInhibitNext (s : State) : s.pullWord.2.irqInhibitNext = s.irqInhibitNext := by simp [State.pullWord]
@[simp] theorem State.pullWord_params (s : State) : s.pullWord.2.params = s.params := by simp [State.pullWord]
@[simp] theorem State.pullWord_sp (s : State) : s.pullWord.2.sp = s.sp + 2 := by simp [State.pullWord]; bv_omega
@[simp] theorem State.pullWord_peek (s : State) (b : Word) : s.pullWord.2.peek b = s.peek b := by simp [State.pullWord]

/-- A push keeps memory's canonical form. -/
theorem State.push_wf {s : State} (v : Byte) (hw : s.mem.wf) : (s.push v).mem.wf := State.store_wf _ v hw

/-- A push leaves every address but its own alone. -/
theorem State.push_peek_other (s : State) {b : Word} (v : Byte) (h : b ≠ stackAddr s.sp) :
    (s.push v).peek b = s.peek b := by
  simpa [State.push] using s.store_peek_other v h

/-- A byte pushed to RAM stands at its stack address (20_memory.md R58). -/
theorem State.push_peek_ram {s : State} (v : Byte) (h : targetOf s.params (stackAddr s.sp) = .region .ram) :
    (s.push v).peek (stackAddr s.sp) = v := by
  simpa [State.push] using s.store_peek_ram v h

/-- Different S, different stack address. -/
theorem stackAddr_inj {a b : Byte} (h : stackAddr a = stackAddr b) : a = b := by
  simp only [stackAddr, zext16] at h; bv_omega

/-- Every stack address is in page one (20_memory.md R58). -/
theorem stackAddr_toNat (a : Byte) : (stackAddr a).toNat = 256 + a.toNat := by
  simp only [stackAddr, zext16]; have := a.isLt; bv_omega

/-! ### Sequences -/

@[simp] theorem State.enter_a (s : State) (ret : Word) (b : Bool) (vec : Word) : (s.enter ret b vec).a = s.a := by simp [State.enter]
@[simp] theorem State.enter_x (s : State) (ret : Word) (b : Bool) (vec : Word) : (s.enter ret b vec).x = s.x := by simp [State.enter]
@[simp] theorem State.enter_y (s : State) (ret : Word) (b : Bool) (vec : Word) : (s.enter ret b vec).y = s.y := by simp [State.enter]
@[simp] theorem State.enter_lines (s : State) (ret : Word) (b : Bool) (vec : Word) : (s.enter ret b vec).lines = s.lines := by simp [State.enter]
@[simp] theorem State.enter_schedule (s : State) (ret : Word) (b : Bool) (vec : Word) : (s.enter ret b vec).schedule = s.schedule := by simp [State.enter]
@[simp] theorem State.enter_nmiPending (s : State) (ret : Word) (b : Bool) (vec : Word) : (s.enter ret b vec).nmiPending = s.nmiPending := by simp [State.enter]
@[simp] theorem State.enter_irqInhibitNext (s : State) (ret : Word) (b : Bool) (vec : Word) : (s.enter ret b vec).irqInhibitNext = s.irqInhibitNext := by simp [State.enter]
@[simp] theorem State.enter_params (s : State) (ret : Word) (b : Bool) (vec : Word) : (s.enter ret b vec).params = s.params := by simp [State.enter]
@[simp] theorem State.enter_sp (s : State) (ret : Word) (b : Bool) (vec : Word) :
    (s.enter ret b vec).sp = s.sp - 3 := by simp [State.enter]; bv_omega
@[simp] theorem State.enter_p (s : State) (ret : Word) (b : Bool) (vec : Word) :
    (s.enter ret b vec).p = { s.p with i := true } := by simp [State.enter]

/-- An entry keeps memory's canonical form. -/
theorem State.enter_wf {s : State} (ret : Word) (b : Bool) (vec : Word) (hw : s.mem.wf) :
    (s.enter ret b vec).mem.wf := by
  have h := State.push_wf (s.p.pack b) (State.push_wf (loByte ret) (State.push_wf (hiByte ret) hw))
  simpa [State.enter, State.pushWord] using h

@[simp] theorem State.leave_a (s : State) : s.leave.a = s.a := by simp [State.leave]
@[simp] theorem State.leave_x (s : State) : s.leave.x = s.x := by simp [State.leave]
@[simp] theorem State.leave_y (s : State) : s.leave.y = s.y := by simp [State.leave]
@[simp] theorem State.leave_mem (s : State) : s.leave.mem = s.mem := by simp [State.leave]
@[simp] theorem State.leave_portDdr (s : State) : s.leave.portDdr = s.portDdr := by simp [State.leave]
@[simp] theorem State.leave_portLatch (s : State) : s.leave.portLatch = s.portLatch := by simp [State.leave]
@[simp] theorem State.leave_lines (s : State) : s.leave.lines = s.lines := by simp [State.leave]
@[simp] theorem State.leave_schedule (s : State) : s.leave.schedule = s.schedule := by simp [State.leave]
@[simp] theorem State.leave_nmiPending (s : State) : s.leave.nmiPending = s.nmiPending := by simp [State.leave]
@[simp] theorem State.leave_irqInhibitNext (s : State) : s.leave.irqInhibitNext = s.irqInhibitNext := by simp [State.leave]
@[simp] theorem State.leave_params (s : State) : s.leave.params = s.params := by simp [State.leave]
@[simp] theorem State.leave_sp (s : State) : s.leave.sp = s.sp + 3 := by simp [State.leave]; bv_omega
@[simp] theorem State.leave_p (s : State) : s.leave.p = Flags.unpack s.pull.1 := by simp [State.leave]

@[simp] theorem State.resetSequence_a (s : State) : s.resetSequence.a = s.a := by
  unfold State.resetSequence; cases s.params.port <;> simp
@[simp] theorem State.resetSequence_x (s : State) : s.resetSequence.x = s.x := by
  unfold State.resetSequence; cases s.params.port <;> simp
@[simp] theorem State.resetSequence_y (s : State) : s.resetSequence.y = s.y := by
  unfold State.resetSequence; cases s.params.port <;> simp
@[simp] theorem State.resetSequence_mem (s : State) : s.resetSequence.mem = s.mem := by
  unfold State.resetSequence; cases s.params.port <;> simp
@[simp] theorem State.resetSequence_portLatch (s : State) : s.resetSequence.portLatch = s.portLatch := by
  unfold State.resetSequence; cases s.params.port <;> simp
@[simp] theorem State.resetSequence_lines (s : State) : s.resetSequence.lines = s.lines := by
  unfold State.resetSequence; cases s.params.port <;> simp
@[simp] theorem State.resetSequence_schedule (s : State) : s.resetSequence.schedule = s.schedule := by
  unfold State.resetSequence; cases s.params.port <;> simp
@[simp] theorem State.resetSequence_params (s : State) : s.resetSequence.params = s.params := by
  unfold State.resetSequence; cases s.params.port <;> simp
@[simp] theorem State.resetSequence_sp (s : State) : s.resetSequence.sp = s.sp - 3 := by
  unfold State.resetSequence; cases s.params.port <;> simp
@[simp] theorem State.resetSequence_p (s : State) : s.resetSequence.p = { s.p with i := true } := by
  unfold State.resetSequence; cases s.params.port <;> simp

@[simp] theorem State.noteIChange_a (s : State) (old : Bool) : (s.noteIChange old).a = s.a := by
  unfold State.noteIChange; split <;> [split; skip] <;> rfl
@[simp] theorem State.noteIChange_x (s : State) (old : Bool) : (s.noteIChange old).x = s.x := by
  unfold State.noteIChange; split <;> [split; skip] <;> rfl
@[simp] theorem State.noteIChange_y (s : State) (old : Bool) : (s.noteIChange old).y = s.y := by
  unfold State.noteIChange; split <;> [split; skip] <;> rfl
@[simp] theorem State.noteIChange_sp (s : State) (old : Bool) : (s.noteIChange old).sp = s.sp := by
  unfold State.noteIChange; split <;> [split; skip] <;> rfl
@[simp] theorem State.noteIChange_pc (s : State) (old : Bool) : (s.noteIChange old).pc = s.pc := by
  unfold State.noteIChange; split <;> [split; skip] <;> rfl
@[simp] theorem State.noteIChange_p (s : State) (old : Bool) : (s.noteIChange old).p = s.p := by
  unfold State.noteIChange; split <;> [split; skip] <;> rfl
@[simp] theorem State.noteIChange_mem (s : State) (old : Bool) : (s.noteIChange old).mem = s.mem := by
  unfold State.noteIChange; split <;> [split; skip] <;> rfl
@[simp] theorem State.noteIChange_portDdr (s : State) (old : Bool) : (s.noteIChange old).portDdr = s.portDdr := by
  unfold State.noteIChange; split <;> [split; skip] <;> rfl
@[simp] theorem State.noteIChange_portLatch (s : State) (old : Bool) : (s.noteIChange old).portLatch = s.portLatch := by
  unfold State.noteIChange; split <;> [split; skip] <;> rfl
@[simp] theorem State.noteIChange_lines (s : State) (old : Bool) : (s.noteIChange old).lines = s.lines := by
  unfold State.noteIChange; split <;> [split; skip] <;> rfl
@[simp] theorem State.noteIChange_schedule (s : State) (old : Bool) : (s.noteIChange old).schedule = s.schedule := by
  unfold State.noteIChange; split <;> [split; skip] <;> rfl
@[simp] theorem State.noteIChange_nmiPending (s : State) (old : Bool) : (s.noteIChange old).nmiPending = s.nmiPending := by
  unfold State.noteIChange; split <;> [split; skip] <;> rfl
@[simp] theorem State.noteIChange_answers (s : State) (old : Bool) : (s.noteIChange old).answers = s.answers := by
  unfold State.noteIChange; split <;> [split; skip] <;> rfl
@[simp] theorem State.noteIChange_draws (s : State) (old : Bool) : (s.noteIChange old).draws = s.draws := by
  unfold State.noteIChange; split <;> [split; skip] <;> rfl
@[simp] theorem State.noteIChange_trace (s : State) (old : Bool) : (s.noteIChange old).trace = s.trace := by
  unfold State.noteIChange; split <;> [split; skip] <;> rfl
@[simp] theorem State.noteIChange_params (s : State) (old : Bool) : (s.noteIChange old).params = s.params := by
  unfold State.noteIChange; split <;> [split; skip] <;> rfl

@[simp] theorem State.sampleLines_a (s : State) : s.sampleLines.a = s.a := by
  unfold State.sampleLines; split <;> rfl
@[simp] theorem State.sampleLines_x (s : State) : s.sampleLines.x = s.x := by
  unfold State.sampleLines; split <;> rfl
@[simp] theorem State.sampleLines_y (s : State) : s.sampleLines.y = s.y := by
  unfold State.sampleLines; split <;> rfl
@[simp] theorem State.sampleLines_sp (s : State) : s.sampleLines.sp = s.sp := by
  unfold State.sampleLines; split <;> rfl
@[simp] theorem State.sampleLines_pc (s : State) : s.sampleLines.pc = s.pc := by
  unfold State.sampleLines; split <;> rfl
@[simp] theorem State.sampleLines_p (s : State) : s.sampleLines.p = s.p := by
  unfold State.sampleLines; split <;> rfl
@[simp] theorem State.sampleLines_mem (s : State) : s.sampleLines.mem = s.mem := by
  unfold State.sampleLines; split <;> rfl
@[simp] theorem State.sampleLines_portDdr (s : State) : s.sampleLines.portDdr = s.portDdr := by
  unfold State.sampleLines; split <;> rfl
@[simp] theorem State.sampleLines_portLatch (s : State) : s.sampleLines.portLatch = s.portLatch := by
  unfold State.sampleLines; split <;> rfl
@[simp] theorem State.sampleLines_irqInhibitNext (s : State) : s.sampleLines.irqInhibitNext = s.irqInhibitNext := by
  unfold State.sampleLines; split <;> rfl
@[simp] theorem State.sampleLines_answers (s : State) : s.sampleLines.answers = s.answers := by
  unfold State.sampleLines; split <;> rfl
@[simp] theorem State.sampleLines_draws (s : State) : s.sampleLines.draws = s.draws := by
  unfold State.sampleLines; split <;> rfl
@[simp] theorem State.sampleLines_trace (s : State) : s.sampleLines.trace = s.trace := by
  unfold State.sampleLines; split <;> rfl
@[simp] theorem State.sampleLines_params (s : State) : s.sampleLines.params = s.params := by
  unfold State.sampleLines; split <;> rfl

/-- Everything a boundary can lead to: waiting, a reset or entry sequence, or going on to an instruction. -/
theorem State.boundary_cases (s : State) :
    s.boundary = (.held, s.sampleLines) ∨
    s.boundary = (.reset, (s.sampleLines.setInhibit false).resetSequence) ∨
    s.boundary = (.nmi, ((s.sampleLines.setInhibit false).setNmiPending false).enter s.pc false nmiVector) ∨
    s.boundary = (.irq, (s.sampleLines.setInhibit false).enter s.pc false irqVector) ∨
    s.boundary = (.execute, s.sampleLines.setInhibit false) := by
  cases h : s.sampleLines.event s.lines.res <;> simp [State.boundary, h]

end Sys2Proof.Machine
end

