-- ==== Sys2Proof/Laws/PerInstr.lean ====
section
/-! SUPPORT. Statements made per instruction, with one lemma for each constructor of `Instr`. -/

namespace Sys2Proof.Laws

open Sys2Proof

/-- The encoding of an instruction has the row's "No. Bytes" bytes (30_encoding.md R99), and the length is 1, 2 or 3
(R80). -/
def EncodedLength.Statement (i : Instr) : Prop :=
  (encode i).length = i.length ∧ 1 ≤ i.length ∧ i.length ≤ 3

theorem EncodedLength.adcImm (b : Byte) : EncodedLength.Statement (.adcImm b) := ⟨rfl, Nat.le_of_ble_eq_true rfl, Nat.le_of_ble_eq_true rfl⟩
theorem EncodedLength.adcZp (b : Byte) : EncodedLength.Statement (.adcZp b) := ⟨rfl, Nat.le_of_ble_eq_true rfl, Nat.le_of_ble_eq_true rfl⟩
theorem EncodedLength.adcZpx (b : Byte) : EncodedLength.Statement (.adcZpx b) := ⟨rfl, Nat.le_of_ble_eq_true rfl, Nat.le_of_ble_eq_true rfl⟩
theorem EncodedLength.adcAbs (w : Word) : EncodedLength.Statement (.adcAbs w) := ⟨rfl, Nat.le_of_ble_eq_true rfl, Nat.le_of_ble_eq_true rfl⟩
theorem EncodedLength.adcAbx (w : Word) : EncodedLength.Statement (.adcAbx w) := ⟨rfl, Nat.le_of_ble_eq_true rfl, Nat.le_of_ble_eq_true rfl⟩
theorem EncodedLength.adcAby (w : Word) : EncodedLength.Statement (.adcAby w) := ⟨rfl, Nat.le_of_ble_eq_true rfl, Nat.le_of_ble_eq_true rfl⟩
theorem EncodedLength.adcIzx (b : Byte) : EncodedLength.Statement (.adcIzx b) := ⟨rfl, Nat.le_of_ble_eq_true rfl, Nat.le_of_ble_eq_true rfl⟩
theorem EncodedLength.adcIzy (b : Byte) : EncodedLength.Statement (.adcIzy b) := ⟨rfl, Nat.le_of_ble_eq_true rfl, Nat.le_of_ble_eq_true rfl⟩
theorem EncodedLength.andImm (b : Byte) : EncodedLength.Statement (.andImm b) := ⟨rfl, Nat.le_of_ble_eq_true rfl, Nat.le_of_ble_eq_true rfl⟩
theorem EncodedLength.andZp (b : Byte) : EncodedLength.Statement (.andZp b) := ⟨rfl, Nat.le_of_ble_eq_true rfl, Nat.le_of_ble_eq_true rfl⟩
theorem EncodedLength.andZpx (b : Byte) : EncodedLength.Statement (.andZpx b) := ⟨rfl, Nat.le_of_ble_eq_true rfl, Nat.le_of_ble_eq_true rfl⟩
theorem EncodedLength.andAbs (w : Word) : EncodedLength.Statement (.andAbs w) := ⟨rfl, Nat.le_of_ble_eq_true rfl, Nat.le_of_ble_eq_true rfl⟩
theorem EncodedLength.andAbx (w : Word) : EncodedLength.Statement (.andAbx w) := ⟨rfl, Nat.le_of_ble_eq_true rfl, Nat.le_of_ble_eq_true rfl⟩
theorem EncodedLength.andAby (w : Word) : EncodedLength.Statement (.andAby w) := ⟨rfl, Nat.le_of_ble_eq_true rfl, Nat.le_of_ble_eq_true rfl⟩
theorem EncodedLength.andIzx (b : Byte) : EncodedLength.Statement (.andIzx b) := ⟨rfl, Nat.le_of_ble_eq_true rfl, Nat.le_of_ble_eq_true rfl⟩
theorem EncodedLength.andIzy (b : Byte) : EncodedLength.Statement (.andIzy b) := ⟨rfl, Nat.le_of_ble_eq_true rfl, Nat.le_of_ble_eq_true rfl⟩
theorem EncodedLength.aslAcc : EncodedLength.Statement (.aslAcc) := ⟨rfl, Nat.le_of_ble_eq_true rfl, Nat.le_of_ble_eq_true rfl⟩
theorem EncodedLength.aslZp (b : Byte) : EncodedLength.Statement (.aslZp b) := ⟨rfl, Nat.le_of_ble_eq_true rfl, Nat.le_of_ble_eq_true rfl⟩
theorem EncodedLength.aslZpx (b : Byte) : EncodedLength.Statement (.aslZpx b) := ⟨rfl, Nat.le_of_ble_eq_true rfl, Nat.le_of_ble_eq_true rfl⟩
theorem EncodedLength.aslAbs (w : Word) : EncodedLength.Statement (.aslAbs w) := ⟨rfl, Nat.le_of_ble_eq_true rfl, Nat.le_of_ble_eq_true rfl⟩
theorem EncodedLength.aslAbx (w : Word) : EncodedLength.Statement (.aslAbx w) := ⟨rfl, Nat.le_of_ble_eq_true rfl, Nat.le_of_ble_eq_true rfl⟩
theorem EncodedLength.bcc (d : Int) : EncodedLength.Statement (.bcc d) := ⟨rfl, Nat.le_of_ble_eq_true rfl, Nat.le_of_ble_eq_true rfl⟩
theorem EncodedLength.bcs (d : Int) : EncodedLength.Statement (.bcs d) := ⟨rfl, Nat.le_of_ble_eq_true rfl, Nat.le_of_ble_eq_true rfl⟩
theorem EncodedLength.beq (d : Int) : EncodedLength.Statement (.beq d) := ⟨rfl, Nat.le_of_ble_eq_true rfl, Nat.le_of_ble_eq_true rfl⟩
theorem EncodedLength.bitZp (b : Byte) : EncodedLength.Statement (.bitZp b) := ⟨rfl, Nat.le_of_ble_eq_true rfl, Nat.le_of_ble_eq_true rfl⟩
theorem EncodedLength.bitAbs (w : Word) : EncodedLength.Statement (.bitAbs w) := ⟨rfl, Nat.le_of_ble_eq_true rfl, Nat.le_of_ble_eq_true rfl⟩
theorem EncodedLength.bmi (d : Int) : EncodedLength.Statement (.bmi d) := ⟨rfl, Nat.le_of_ble_eq_true rfl, Nat.le_of_ble_eq_true rfl⟩
theorem EncodedLength.bne (d : Int) : EncodedLength.Statement (.bne d) := ⟨rfl, Nat.le_of_ble_eq_true rfl, Nat.le_of_ble_eq_true rfl⟩
theorem EncodedLength.bpl (d : Int) : EncodedLength.Statement (.bpl d) := ⟨rfl, Nat.le_of_ble_eq_true rfl, Nat.le_of_ble_eq_true rfl⟩
theorem EncodedLength.brk : EncodedLength.Statement (.brk) := ⟨rfl, Nat.le_of_ble_eq_true rfl, Nat.le_of_ble_eq_true rfl⟩
theorem EncodedLength.bvc (d : Int) : EncodedLength.Statement (.bvc d) := ⟨rfl, Nat.le_of_ble_eq_true rfl, Nat.le_of_ble_eq_true rfl⟩
theorem EncodedLength.bvs (d : Int) : EncodedLength.Statement (.bvs d) := ⟨rfl, Nat.le_of_ble_eq_true rfl, Nat.le_of_ble_eq_true rfl⟩
theorem EncodedLength.clc : EncodedLength.Statement (.clc) := ⟨rfl, Nat.le_of_ble_eq_true rfl, Nat.le_of_ble_eq_true rfl⟩
theorem EncodedLength.cld : EncodedLength.Statement (.cld) := ⟨rfl, Nat.le_of_ble_eq_true rfl, Nat.le_of_ble_eq_true rfl⟩
theorem EncodedLength.cli : EncodedLength.Statement (.cli) := ⟨rfl, Nat.le_of_ble_eq_true rfl, Nat.le_of_ble_eq_true rfl⟩
theorem EncodedLength.clv : EncodedLength.Statement (.clv) := ⟨rfl, Nat.le_of_ble_eq_true rfl, Nat.le_of_ble_eq_true rfl⟩
theorem EncodedLength.cmpImm (b : Byte) : EncodedLength.Statement (.cmpImm b) := ⟨rfl, Nat.le_of_ble_eq_true rfl, Nat.le_of_ble_eq_true rfl⟩
theorem EncodedLength.cmpZp (b : Byte) : EncodedLength.Statement (.cmpZp b) := ⟨rfl, Nat.le_of_ble_eq_true rfl, Nat.le_of_ble_eq_true rfl⟩
theorem EncodedLength.cmpZpx (b : Byte) : EncodedLength.Statement (.cmpZpx b) := ⟨rfl, Nat.le_of_ble_eq_true rfl, Nat.le_of_ble_eq_true rfl⟩
theorem EncodedLength.cmpAbs (w : Word) : EncodedLength.Statement (.cmpAbs w) := ⟨rfl, Nat.le_of_ble_eq_true rfl, Nat.le_of_ble_eq_true rfl⟩
theorem EncodedLength.cmpAbx (w : Word) : EncodedLength.Statement (.cmpAbx w) := ⟨rfl, Nat.le_of_ble_eq_true rfl, Nat.le_of_ble_eq_true rfl⟩
theorem EncodedLength.cmpAby (w : Word) : EncodedLength.Statement (.cmpAby w) := ⟨rfl, Nat.le_of_ble_eq_true rfl, Nat.le_of_ble_eq_true rfl⟩
theorem EncodedLength.cmpIzx (b : Byte) : EncodedLength.Statement (.cmpIzx b) := ⟨rfl, Nat.le_of_ble_eq_true rfl, Nat.le_of_ble_eq_true rfl⟩
theorem EncodedLength.cmpIzy (b : Byte) : EncodedLength.Statement (.cmpIzy b) := ⟨rfl, Nat.le_of_ble_eq_true rfl, Nat.le_of_ble_eq_true rfl⟩
theorem EncodedLength.cpxImm (b : Byte) : EncodedLength.Statement (.cpxImm b) := ⟨rfl, Nat.le_of_ble_eq_true rfl, Nat.le_of_ble_eq_true rfl⟩
theorem EncodedLength.cpxZp (b : Byte) : EncodedLength.Statement (.cpxZp b) := ⟨rfl, Nat.le_of_ble_eq_true rfl, Nat.le_of_ble_eq_true rfl⟩
theorem EncodedLength.cpxAbs (w : Word) : EncodedLength.Statement (.cpxAbs w) := ⟨rfl, Nat.le_of_ble_eq_true rfl, Nat.le_of_ble_eq_true rfl⟩
theorem EncodedLength.cpyImm (b : Byte) : EncodedLength.Statement (.cpyImm b) := ⟨rfl, Nat.le_of_ble_eq_true rfl, Nat.le_of_ble_eq_true rfl⟩
theorem EncodedLength.cpyZp (b : Byte) : EncodedLength.Statement (.cpyZp b) := ⟨rfl, Nat.le_of_ble_eq_true rfl, Nat.le_of_ble_eq_true rfl⟩
theorem EncodedLength.cpyAbs (w : Word) : EncodedLength.Statement (.cpyAbs w) := ⟨rfl, Nat.le_of_ble_eq_true rfl, Nat.le_of_ble_eq_true rfl⟩
theorem EncodedLength.decZp (b : Byte) : EncodedLength.Statement (.decZp b) := ⟨rfl, Nat.le_of_ble_eq_true rfl, Nat.le_of_ble_eq_true rfl⟩
theorem EncodedLength.decZpx (b : Byte) : EncodedLength.Statement (.decZpx b) := ⟨rfl, Nat.le_of_ble_eq_true rfl, Nat.le_of_ble_eq_true rfl⟩
theorem EncodedLength.decAbs (w : Word) : EncodedLength.Statement (.decAbs w) := ⟨rfl, Nat.le_of_ble_eq_true rfl, Nat.le_of_ble_eq_true rfl⟩
theorem EncodedLength.decAbx (w : Word) : EncodedLength.Statement (.decAbx w) := ⟨rfl, Nat.le_of_ble_eq_true rfl, Nat.le_of_ble_eq_true rfl⟩
theorem EncodedLength.dex : EncodedLength.Statement (.dex) := ⟨rfl, Nat.le_of_ble_eq_true rfl, Nat.le_of_ble_eq_true rfl⟩
theorem EncodedLength.dey : EncodedLength.Statement (.dey) := ⟨rfl, Nat.le_of_ble_eq_true rfl, Nat.le_of_ble_eq_true rfl⟩
theorem EncodedLength.eorImm (b : Byte) : EncodedLength.Statement (.eorImm b) := ⟨rfl, Nat.le_of_ble_eq_true rfl, Nat.le_of_ble_eq_true rfl⟩
theorem EncodedLength.eorZp (b : Byte) : EncodedLength.Statement (.eorZp b) := ⟨rfl, Nat.le_of_ble_eq_true rfl, Nat.le_of_ble_eq_true rfl⟩
theorem EncodedLength.eorZpx (b : Byte) : EncodedLength.Statement (.eorZpx b) := ⟨rfl, Nat.le_of_ble_eq_true rfl, Nat.le_of_ble_eq_true rfl⟩
theorem EncodedLength.eorAbs (w : Word) : EncodedLength.Statement (.eorAbs w) := ⟨rfl, Nat.le_of_ble_eq_true rfl, Nat.le_of_ble_eq_true rfl⟩
theorem EncodedLength.eorAbx (w : Word) : EncodedLength.Statement (.eorAbx w) := ⟨rfl, Nat.le_of_ble_eq_true rfl, Nat.le_of_ble_eq_true rfl⟩
theorem EncodedLength.eorAby (w : Word) : EncodedLength.Statement (.eorAby w) := ⟨rfl, Nat.le_of_ble_eq_true rfl, Nat.le_of_ble_eq_true rfl⟩
theorem EncodedLength.eorIzx (b : Byte) : EncodedLength.Statement (.eorIzx b) := ⟨rfl, Nat.le_of_ble_eq_true rfl, Nat.le_of_ble_eq_true rfl⟩
theorem EncodedLength.eorIzy (b : Byte) : EncodedLength.Statement (.eorIzy b) := ⟨rfl, Nat.le_of_ble_eq_true rfl, Nat.le_of_ble_eq_true rfl⟩
theorem EncodedLength.incZp (b : Byte) : EncodedLength.Statement (.incZp b) := ⟨rfl, Nat.le_of_ble_eq_true rfl, Nat.le_of_ble_eq_true rfl⟩
theorem EncodedLength.incZpx (b : Byte) : EncodedLength.Statement (.incZpx b) := ⟨rfl, Nat.le_of_ble_eq_true rfl, Nat.le_of_ble_eq_true rfl⟩
theorem EncodedLength.incAbs (w : Word) : EncodedLength.Statement (.incAbs w) := ⟨rfl, Nat.le_of_ble_eq_true rfl, Nat.le_of_ble_eq_true rfl⟩
theorem EncodedLength.incAbx (w : Word) : EncodedLength.Statement (.incAbx w) := ⟨rfl, Nat.le_of_ble_eq_true rfl, Nat.le_of_ble_eq_true rfl⟩
theorem EncodedLength.inx : EncodedLength.Statement (.inx) := ⟨rfl, Nat.le_of_ble_eq_true rfl, Nat.le_of_ble_eq_true rfl⟩
theorem EncodedLength.iny : EncodedLength.Statement (.iny) := ⟨rfl, Nat.le_of_ble_eq_true rfl, Nat.le_of_ble_eq_true rfl⟩
theorem EncodedLength.jmpAbs (w : Word) : EncodedLength.Statement (.jmpAbs w) := ⟨rfl, Nat.le_of_ble_eq_true rfl, Nat.le_of_ble_eq_true rfl⟩
theorem EncodedLength.jmpInd (w : Word) : EncodedLength.Statement (.jmpInd w) := ⟨rfl, Nat.le_of_ble_eq_true rfl, Nat.le_of_ble_eq_true rfl⟩
theorem EncodedLength.jsr (w : Word) : EncodedLength.Statement (.jsr w) := ⟨rfl, Nat.le_of_ble_eq_true rfl, Nat.le_of_ble_eq_true rfl⟩
theorem EncodedLength.ldaImm (b : Byte) : EncodedLength.Statement (.ldaImm b) := ⟨rfl, Nat.le_of_ble_eq_true rfl, Nat.le_of_ble_eq_true rfl⟩
theorem EncodedLength.ldaZp (b : Byte) : EncodedLength.Statement (.ldaZp b) := ⟨rfl, Nat.le_of_ble_eq_true rfl, Nat.le_of_ble_eq_true rfl⟩
theorem EncodedLength.ldaZpx (b : Byte) : EncodedLength.Statement (.ldaZpx b) := ⟨rfl, Nat.le_of_ble_eq_true rfl, Nat.le_of_ble_eq_true rfl⟩
theorem EncodedLength.ldaAbs (w : Word) : EncodedLength.Statement (.ldaAbs w) := ⟨rfl, Nat.le_of_ble_eq_true rfl, Nat.le_of_ble_eq_true rfl⟩
theorem EncodedLength.ldaAbx (w : Word) : EncodedLength.Statement (.ldaAbx w) := ⟨rfl, Nat.le_of_ble_eq_true rfl, Nat.le_of_ble_eq_true rfl⟩
theorem EncodedLength.ldaAby (w : Word) : EncodedLength.Statement (.ldaAby w) := ⟨rfl, Nat.le_of_ble_eq_true rfl, Nat.le_of_ble_eq_true rfl⟩
theorem EncodedLength.ldaIzx (b : Byte) : EncodedLength.Statement (.ldaIzx b) := ⟨rfl, Nat.le_of_ble_eq_true rfl, Nat.le_of_ble_eq_true rfl⟩
theorem EncodedLength.ldaIzy (b : Byte) : EncodedLength.Statement (.ldaIzy b) := ⟨rfl, Nat.le_of_ble_eq_true rfl, Nat.le_of_ble_eq_true rfl⟩
theorem EncodedLength.ldxImm (b : Byte) : EncodedLength.Statement (.ldxImm b) := ⟨rfl, Nat.le_of_ble_eq_true rfl, Nat.le_of_ble_eq_true rfl⟩
theorem EncodedLength.ldxZp (b : Byte) : EncodedLength.Statement (.ldxZp b) := ⟨rfl, Nat.le_of_ble_eq_true rfl, Nat.le_of_ble_eq_true rfl⟩
theorem EncodedLength.ldxZpy (b : Byte) : EncodedLength.Statement (.ldxZpy b) := ⟨rfl, Nat.le_of_ble_eq_true rfl, Nat.le_of_ble_eq_true rfl⟩
theorem EncodedLength.ldxAbs (w : Word) : EncodedLength.Statement (.ldxAbs w) := ⟨rfl, Nat.le_of_ble_eq_true rfl, Nat.le_of_ble_eq_true rfl⟩
theorem EncodedLength.ldxAby (w : Word) : EncodedLength.Statement (.ldxAby w) := ⟨rfl, Nat.le_of_ble_eq_true rfl, Nat.le_of_ble_eq_true rfl⟩
theorem EncodedLength.ldyImm (b : Byte) : EncodedLength.Statement (.ldyImm b) := ⟨rfl, Nat.le_of_ble_eq_true rfl, Nat.le_of_ble_eq_true rfl⟩
theorem EncodedLength.ldyZp (b : Byte) : EncodedLength.Statement (.ldyZp b) := ⟨rfl, Nat.le_of_ble_eq_true rfl, Nat.le_of_ble_eq_true rfl⟩
theorem EncodedLength.ldyZpx (b : Byte) : EncodedLength.Statement (.ldyZpx b) := ⟨rfl, Nat.le_of_ble_eq_true rfl, Nat.le_of_ble_eq_true rfl⟩
theorem EncodedLength.ldyAbs (w : Word) : EncodedLength.Statement (.ldyAbs w) := ⟨rfl, Nat.le_of_ble_eq_true rfl, Nat.le_of_ble_eq_true rfl⟩
theorem EncodedLength.ldyAbx (w : Word) : EncodedLength.Statement (.ldyAbx w) := ⟨rfl, Nat.le_of_ble_eq_true rfl, Nat.le_of_ble_eq_true rfl⟩
theorem EncodedLength.lsrAcc : EncodedLength.Statement (.lsrAcc) := ⟨rfl, Nat.le_of_ble_eq_true rfl, Nat.le_of_ble_eq_true rfl⟩
theorem EncodedLength.lsrZp (b : Byte) : EncodedLength.Statement (.lsrZp b) := ⟨rfl, Nat.le_of_ble_eq_true rfl, Nat.le_of_ble_eq_true rfl⟩
theorem EncodedLength.lsrZpx (b : Byte) : EncodedLength.Statement (.lsrZpx b) := ⟨rfl, Nat.le_of_ble_eq_true rfl, Nat.le_of_ble_eq_true rfl⟩
theorem EncodedLength.lsrAbs (w : Word) : EncodedLength.Statement (.lsrAbs w) := ⟨rfl, Nat.le_of_ble_eq_true rfl, Nat.le_of_ble_eq_true rfl⟩
theorem EncodedLength.lsrAbx (w : Word) : EncodedLength.Statement (.lsrAbx w) := ⟨rfl, Nat.le_of_ble_eq_true rfl, Nat.le_of_ble_eq_true rfl⟩
theorem EncodedLength.nop : EncodedLength.Statement (.nop) := ⟨rfl, Nat.le_of_ble_eq_true rfl, Nat.le_of_ble_eq_true rfl⟩
theorem EncodedLength.nopImp1A : EncodedLength.Statement (.nopImp1A) := ⟨rfl, Nat.le_of_ble_eq_true rfl, Nat.le_of_ble_eq_true rfl⟩
theorem EncodedLength.nopImp3A : EncodedLength.Statement (.nopImp3A) := ⟨rfl, Nat.le_of_ble_eq_true rfl, Nat.le_of_ble_eq_true rfl⟩
theorem EncodedLength.nopImp5A : EncodedLength.Statement (.nopImp5A) := ⟨rfl, Nat.le_of_ble_eq_true rfl, Nat.le_of_ble_eq_true rfl⟩
theorem EncodedLength.nopImp7A : EncodedLength.Statement (.nopImp7A) := ⟨rfl, Nat.le_of_ble_eq_true rfl, Nat.le_of_ble_eq_true rfl⟩
theorem EncodedLength.nopImpDA : EncodedLength.Statement (.nopImpDA) := ⟨rfl, Nat.le_of_ble_eq_true rfl, Nat.le_of_ble_eq_true rfl⟩
theorem EncodedLength.nopImpFA : EncodedLength.Statement (.nopImpFA) := ⟨rfl, Nat.le_of_ble_eq_true rfl, Nat.le_of_ble_eq_true rfl⟩
theorem EncodedLength.nopImm80 (b : Byte) : EncodedLength.Statement (.nopImm80 b) := ⟨rfl, Nat.le_of_ble_eq_true rfl, Nat.le_of_ble_eq_true rfl⟩
theorem EncodedLength.nopImm82 (b : Byte) : EncodedLength.Statement (.nopImm82 b) := ⟨rfl, Nat.le_of_ble_eq_true rfl, Nat.le_of_ble_eq_true rfl⟩
theorem EncodedLength.nopImm89 (b : Byte) : EncodedLength.Statement (.nopImm89 b) := ⟨rfl, Nat.le_of_ble_eq_true rfl, Nat.le_of_ble_eq_true rfl⟩
theorem EncodedLength.nopImmC2 (b : Byte) : EncodedLength.Statement (.nopImmC2 b) := ⟨rfl, Nat.le_of_ble_eq_true rfl, Nat.le_of_ble_eq_true rfl⟩
theorem EncodedLength.nopImmE2 (b : Byte) : EncodedLength.Statement (.nopImmE2 b) := ⟨rfl, Nat.le_of_ble_eq_true rfl, Nat.le_of_ble_eq_true rfl⟩
theorem EncodedLength.nopZp04 (b : Byte) : EncodedLength.Statement (.nopZp04 b) := ⟨rfl, Nat.le_of_ble_eq_true rfl, Nat.le_of_ble_eq_true rfl⟩
theorem EncodedLength.nopZp44 (b : Byte) : EncodedLength.Statement (.nopZp44 b) := ⟨rfl, Nat.le_of_ble_eq_true rfl, Nat.le_of_ble_eq_true rfl⟩
theorem EncodedLength.nopZp64 (b : Byte) : EncodedLength.Statement (.nopZp64 b) := ⟨rfl, Nat.le_of_ble_eq_true rfl, Nat.le_of_ble_eq_true rfl⟩
theorem EncodedLength.nopZpx14 (b : Byte) : EncodedLength.Statement (.nopZpx14 b) := ⟨rfl, Nat.le_of_ble_eq_true rfl, Nat.le_of_ble_eq_true rfl⟩
theorem EncodedLength.nopZpx34 (b : Byte) : EncodedLength.Statement (.nopZpx34 b) := ⟨rfl, Nat.le_of_ble_eq_true rfl, Nat.le_of_ble_eq_true rfl⟩
theorem EncodedLength.nopZpx54 (b : Byte) : EncodedLength.Statement (.nopZpx54 b) := ⟨rfl, Nat.le_of_ble_eq_true rfl, Nat.le_of_ble_eq_true rfl⟩
theorem EncodedLength.nopZpx74 (b : Byte) : EncodedLength.Statement (.nopZpx74 b) := ⟨rfl, Nat.le_of_ble_eq_true rfl, Nat.le_of_ble_eq_true rfl⟩
theorem EncodedLength.nopZpxD4 (b : Byte) : EncodedLength.Statement (.nopZpxD4 b) := ⟨rfl, Nat.le_of_ble_eq_true rfl, Nat.le_of_ble_eq_true rfl⟩
theorem EncodedLength.nopZpxF4 (b : Byte) : EncodedLength.Statement (.nopZpxF4 b) := ⟨rfl, Nat.le_of_ble_eq_true rfl, Nat.le_of_ble_eq_true rfl⟩
theorem EncodedLength.nopAbs0C (w : Word) : EncodedLength.Statement (.nopAbs0C w) := ⟨rfl, Nat.le_of_ble_eq_true rfl, Nat.le_of_ble_eq_true rfl⟩
theorem EncodedLength.nopAbx1C (w : Word) : EncodedLength.Statement (.nopAbx1C w) := ⟨rfl, Nat.le_of_ble_eq_true rfl, Nat.le_of_ble_eq_true rfl⟩
theorem EncodedLength.nopAbx3C (w : Word) : EncodedLength.Statement (.nopAbx3C w) := ⟨rfl, Nat.le_of_ble_eq_true rfl, Nat.le_of_ble_eq_true rfl⟩
theorem EncodedLength.nopAbx5C (w : Word) : EncodedLength.Statement (.nopAbx5C w) := ⟨rfl, Nat.le_of_ble_eq_true rfl, Nat.le_of_ble_eq_true rfl⟩
theorem EncodedLength.nopAbx7C (w : Word) : EncodedLength.Statement (.nopAbx7C w) := ⟨rfl, Nat.le_of_ble_eq_true rfl, Nat.le_of_ble_eq_true rfl⟩
theorem EncodedLength.nopAbxDC (w : Word) : EncodedLength.Statement (.nopAbxDC w) := ⟨rfl, Nat.le_of_ble_eq_true rfl, Nat.le_of_ble_eq_true rfl⟩
theorem EncodedLength.nopAbxFC (w : Word) : EncodedLength.Statement (.nopAbxFC w) := ⟨rfl, Nat.le_of_ble_eq_true rfl, Nat.le_of_ble_eq_true rfl⟩
theorem EncodedLength.oraImm (b : Byte) : EncodedLength.Statement (.oraImm b) := ⟨rfl, Nat.le_of_ble_eq_true rfl, Nat.le_of_ble_eq_true rfl⟩
theorem EncodedLength.oraZp (b : Byte) : EncodedLength.Statement (.oraZp b) := ⟨rfl, Nat.le_of_ble_eq_true rfl, Nat.le_of_ble_eq_true rfl⟩
theorem EncodedLength.oraZpx (b : Byte) : EncodedLength.Statement (.oraZpx b) := ⟨rfl, Nat.le_of_ble_eq_true rfl, Nat.le_of_ble_eq_true rfl⟩
theorem EncodedLength.oraAbs (w : Word) : EncodedLength.Statement (.oraAbs w) := ⟨rfl, Nat.le_of_ble_eq_true rfl, Nat.le_of_ble_eq_true rfl⟩
theorem EncodedLength.oraAbx (w : Word) : EncodedLength.Statement (.oraAbx w) := ⟨rfl, Nat.le_of_ble_eq_true rfl, Nat.le_of_ble_eq_true rfl⟩
theorem EncodedLength.oraAby (w : Word) : EncodedLength.Statement (.oraAby w) := ⟨rfl, Nat.le_of_ble_eq_true rfl, Nat.le_of_ble_eq_true rfl⟩
theorem EncodedLength.oraIzx (b : Byte) : EncodedLength.Statement (.oraIzx b) := ⟨rfl, Nat.le_of_ble_eq_true rfl, Nat.le_of_ble_eq_true rfl⟩
theorem EncodedLength.oraIzy (b : Byte) : EncodedLength.Statement (.oraIzy b) := ⟨rfl, Nat.le_of_ble_eq_true rfl, Nat.le_of_ble_eq_true rfl⟩
theorem EncodedLength.pha : EncodedLength.Statement (.pha) := ⟨rfl, Nat.le_of_ble_eq_true rfl, Nat.le_of_ble_eq_true rfl⟩
theorem EncodedLength.php : EncodedLength.Statement (.php) := ⟨rfl, Nat.le_of_ble_eq_true rfl, Nat.le_of_ble_eq_true rfl⟩
theorem EncodedLength.pla : EncodedLength.Statement (.pla) := ⟨rfl, Nat.le_of_ble_eq_true rfl, Nat.le_of_ble_eq_true rfl⟩
theorem EncodedLength.plp : EncodedLength.Statement (.plp) := ⟨rfl, Nat.le_of_ble_eq_true rfl, Nat.le_of_ble_eq_true rfl⟩
theorem EncodedLength.rolAcc : EncodedLength.Statement (.rolAcc) := ⟨rfl, Nat.le_of_ble_eq_true rfl, Nat.le_of_ble_eq_true rfl⟩
theorem EncodedLength.rolZp (b : Byte) : EncodedLength.Statement (.rolZp b) := ⟨rfl, Nat.le_of_ble_eq_true rfl, Nat.le_of_ble_eq_true rfl⟩
theorem EncodedLength.rolZpx (b : Byte) : EncodedLength.Statement (.rolZpx b) := ⟨rfl, Nat.le_of_ble_eq_true rfl, Nat.le_of_ble_eq_true rfl⟩
theorem EncodedLength.rolAbs (w : Word) : EncodedLength.Statement (.rolAbs w) := ⟨rfl, Nat.le_of_ble_eq_true rfl, Nat.le_of_ble_eq_true rfl⟩
theorem EncodedLength.rolAbx (w : Word) : EncodedLength.Statement (.rolAbx w) := ⟨rfl, Nat.le_of_ble_eq_true rfl, Nat.le_of_ble_eq_true rfl⟩
theorem EncodedLength.rorAcc : EncodedLength.Statement (.rorAcc) := ⟨rfl, Nat.le_of_ble_eq_true rfl, Nat.le_of_ble_eq_true rfl⟩
theorem EncodedLength.rorZp (b : Byte) : EncodedLength.Statement (.rorZp b) := ⟨rfl, Nat.le_of_ble_eq_true rfl, Nat.le_of_ble_eq_true rfl⟩
theorem EncodedLength.rorZpx (b : Byte) : EncodedLength.Statement (.rorZpx b) := ⟨rfl, Nat.le_of_ble_eq_true rfl, Nat.le_of_ble_eq_true rfl⟩
theorem EncodedLength.rorAbs (w : Word) : EncodedLength.Statement (.rorAbs w) := ⟨rfl, Nat.le_of_ble_eq_true rfl, Nat.le_of_ble_eq_true rfl⟩
theorem EncodedLength.rorAbx (w : Word) : EncodedLength.Statement (.rorAbx w) := ⟨rfl, Nat.le_of_ble_eq_true rfl, Nat.le_of_ble_eq_true rfl⟩
theorem EncodedLength.rti : EncodedLength.Statement (.rti) := ⟨rfl, Nat.le_of_ble_eq_true rfl, Nat.le_of_ble_eq_true rfl⟩
theorem EncodedLength.rts : EncodedLength.Statement (.rts) := ⟨rfl, Nat.le_of_ble_eq_true rfl, Nat.le_of_ble_eq_true rfl⟩
theorem EncodedLength.sbcImm (b : Byte) : EncodedLength.Statement (.sbcImm b) := ⟨rfl, Nat.le_of_ble_eq_true rfl, Nat.le_of_ble_eq_true rfl⟩
theorem EncodedLength.sbcZp (b : Byte) : EncodedLength.Statement (.sbcZp b) := ⟨rfl, Nat.le_of_ble_eq_true rfl, Nat.le_of_ble_eq_true rfl⟩
theorem EncodedLength.sbcZpx (b : Byte) : EncodedLength.Statement (.sbcZpx b) := ⟨rfl, Nat.le_of_ble_eq_true rfl, Nat.le_of_ble_eq_true rfl⟩
theorem EncodedLength.sbcAbs (w : Word) : EncodedLength.Statement (.sbcAbs w) := ⟨rfl, Nat.le_of_ble_eq_true rfl, Nat.le_of_ble_eq_true rfl⟩
theorem EncodedLength.sbcAbx (w : Word) : EncodedLength.Statement (.sbcAbx w) := ⟨rfl, Nat.le_of_ble_eq_true rfl, Nat.le_of_ble_eq_true rfl⟩
theorem EncodedLength.sbcAby (w : Word) : EncodedLength.Statement (.sbcAby w) := ⟨rfl, Nat.le_of_ble_eq_true rfl, Nat.le_of_ble_eq_true rfl⟩
theorem EncodedLength.sbcIzx (b : Byte) : EncodedLength.Statement (.sbcIzx b) := ⟨rfl, Nat.le_of_ble_eq_true rfl, Nat.le_of_ble_eq_true rfl⟩
theorem EncodedLength.sbcIzy (b : Byte) : EncodedLength.Statement (.sbcIzy b) := ⟨rfl, Nat.le_of_ble_eq_true rfl, Nat.le_of_ble_eq_true rfl⟩
theorem EncodedLength.sbcImmEB (b : Byte) : EncodedLength.Statement (.sbcImmEB b) := ⟨rfl, Nat.le_of_ble_eq_true rfl, Nat.le_of_ble_eq_true rfl⟩
theorem EncodedLength.sec : EncodedLength.Statement (.sec) := ⟨rfl, Nat.le_of_ble_eq_true rfl, Nat.le_of_ble_eq_true rfl⟩
theorem EncodedLength.sed : EncodedLength.Statement (.sed) := ⟨rfl, Nat.le_of_ble_eq_true rfl, Nat.le_of_ble_eq_true rfl⟩
theorem EncodedLength.sei : EncodedLength.Statement (.sei) := ⟨rfl, Nat.le_of_ble_eq_true rfl, Nat.le_of_ble_eq_true rfl⟩
theorem EncodedLength.staZp (b : Byte) : EncodedLength.Statement (.staZp b) := ⟨rfl, Nat.le_of_ble_eq_true rfl, Nat.le_of_ble_eq_true rfl⟩
theorem EncodedLength.staZpx (b : Byte) : EncodedLength.Statement (.staZpx b) := ⟨rfl, Nat.le_of_ble_eq_true rfl, Nat.le_of_ble_eq_true rfl⟩
theorem EncodedLength.staAbs (w : Word) : EncodedLength.Statement (.staAbs w) := ⟨rfl, Nat.le_of_ble_eq_true rfl, Nat.le_of_ble_eq_true rfl⟩
theorem EncodedLength.staAbx (w : Word) : EncodedLength.Statement (.staAbx w) := ⟨rfl, Nat.le_of_ble_eq_true rfl, Nat.le_of_ble_eq_true rfl⟩
theorem EncodedLength.staAby (w : Word) : EncodedLength.Statement (.staAby w) := ⟨rfl, Nat.le_of_ble_eq_true rfl, Nat.le_of_ble_eq_true rfl⟩
theorem EncodedLength.staIzx (b : Byte) : EncodedLength.Statement (.staIzx b) := ⟨rfl, Nat.le_of_ble_eq_true rfl, Nat.le_of_ble_eq_true rfl⟩
theorem EncodedLength.staIzy (b : Byte) : EncodedLength.Statement (.staIzy b) := ⟨rfl, Nat.le_of_ble_eq_true rfl, Nat.le_of_ble_eq_true rfl⟩
theorem EncodedLength.stxZp (b : Byte) : EncodedLength.Statement (.stxZp b) := ⟨rfl, Nat.le_of_ble_eq_true rfl, Nat.le_of_ble_eq_true rfl⟩
theorem EncodedLength.stxZpy (b : Byte) : EncodedLength.Statement (.stxZpy b) := ⟨rfl, Nat.le_of_ble_eq_true rfl, Nat.le_of_ble_eq_true rfl⟩
theorem EncodedLength.stxAbs (w : Word) : EncodedLength.Statement (.stxAbs w) := ⟨rfl, Nat.le_of_ble_eq_true rfl, Nat.le_of_ble_eq_true rfl⟩
theorem EncodedLength.styZp (b : Byte) : EncodedLength.Statement (.styZp b) := ⟨rfl, Nat.le_of_ble_eq_true rfl, Nat.le_of_ble_eq_true rfl⟩
theorem EncodedLength.styZpx (b : Byte) : EncodedLength.Statement (.styZpx b) := ⟨rfl, Nat.le_of_ble_eq_true rfl, Nat.le_of_ble_eq_true rfl⟩
theorem EncodedLength.styAbs (w : Word) : EncodedLength.Statement (.styAbs w) := ⟨rfl, Nat.le_of_ble_eq_true rfl, Nat.le_of_ble_eq_true rfl⟩
theorem EncodedLength.tax : EncodedLength.Statement (.tax) := ⟨rfl, Nat.le_of_ble_eq_true rfl, Nat.le_of_ble_eq_true rfl⟩
theorem EncodedLength.tay : EncodedLength.Statement (.tay) := ⟨rfl, Nat.le_of_ble_eq_true rfl, Nat.le_of_ble_eq_true rfl⟩
theorem EncodedLength.tsx : EncodedLength.Statement (.tsx) := ⟨rfl, Nat.le_of_ble_eq_true rfl, Nat.le_of_ble_eq_true rfl⟩
theorem EncodedLength.txa : EncodedLength.Statement (.txa) := ⟨rfl, Nat.le_of_ble_eq_true rfl, Nat.le_of_ble_eq_true rfl⟩
theorem EncodedLength.txs : EncodedLength.Statement (.txs) := ⟨rfl, Nat.le_of_ble_eq_true rfl, Nat.le_of_ble_eq_true rfl⟩
theorem EncodedLength.tya : EncodedLength.Statement (.tya) := ⟨rfl, Nat.le_of_ble_eq_true rfl, Nat.le_of_ble_eq_true rfl⟩

end Sys2Proof.Laws
end

