-- ==== Sys2Proof/Machine/Timing.lean ====
section
/-! DEFINITION. The cycle counts of the source (70_reset_and_hazards.md R276 to R280), as functions beside the step:
the state keeps no clock and no step reads them (R275, 92_eei_decisions.md D11). Log entry 22. -/

namespace Sys2Proof.Machine

open Sys2Proof

/-- How an instruction uses memory, which is what its count depends on (R277, "In words"). -/
inductive TimingClass where
  | read | store | modify
  deriving DecidableEq, Repr

/-- The class of a mnemonic that has memory modes. -/
def timingClass : Mnemonic → TimingClass
  | .sta | .stx | .sty => .store
  | .asl | .lsr | .rol | .ror | .inc | .dec => .modify
  | _ => .read

/-- The count of a memory mode, without the page-crossing penalty (R277). -/
def memCycles (c : TimingClass) : MemMode → Nat
  | .zp _ => match c with | .read | .store => 3 | .modify => 5
  | .zpx _ | .zpy _ => match c with | .read | .store => 4 | .modify => 6
  | .abs _ => match c with | .read | .store => 4 | .modify => 6
  | .abx _ | .aby _ => match c with | .read => 4 | .store => 5 | .modify => 7
  | .izx _ => 6
  | .izy _ => match c with | .read => 5 | .store | .modify => 6

/-- The number in the "No. Cycles" column, without its `*` (R277, R279). -/
def baseCycles (i : Instr) : Nat :=
  match i.mnemonic, i.mode with
  | .jsr, _ => 6
  | .jmp, .ind _ => 5
  | .jmp, _ => 3
  | .brk, _ => 7
  | .rti, _ | .rts, _ => 6
  | .pha, _ | .php, _ => 3
  | .pla, _ | .plp, _ => 4
  | m, .mem mode => memCycles (timingClass m) mode
  | _, _ => 2

/-- The base address and the index of a mode that can cross a page (R276). The base of (Indirect),Y is the pointer as
`MemRead` gives it (30_encoding.md R94), so that a port register or a device answers here as it does in `ea`. -/
def indexedBase (m : MemMode) (s : State) : Option (Word × Byte) :=
  match m with
  | .abx w => some (w, s.x)
  | .aby w => some (w, s.y)
  | .izy b => some ((s.loadZpWord b).1, s.y)
  | .zp _ | .zpx _ | .zpy _ | .abs _ | .izx _ => none

/-- Whether an indexed address crosses a page (20_memory.md R59, R276): the low byte of the base plus the index
exceeds 255. `s` is the state that `ea` is given. -/
def crossesPage (m : MemMode) (s : State) : Bool :=
  match indexedBase m s with
  | some (base, index) => decide ((loByte base).toNat + index.toNat > 255)
  | none => false

/-- The cycles beyond the base count: one for a page crossing on a row marked `*` (R276); for a branch one when taken
in the page of the next instruction, two when taken to another (R278). `next` is the next instruction's address. -/
def penaltyCycles (i : Instr) (taken : Bool) (next : Word) (s : State) : Nat :=
  match i.mode with
  | .mem m => if timingClass i.mnemonic = .read ∧ crossesPage m s then 1 else 0
  | .rel d => if taken then (if hiByte (next + sext16 d) = hiByte next then 1 else 2) else 0
  | _ => 0

/-- The IRQ, NMI and reset sequences, like BRK (R280). PRESUMED: the source gives 7 for BRK only (GK23). -/
def sequenceCycles : Nat := 7

end Sys2Proof.Machine
end

