-- ==== Sys2Proof/Laws/Timing.lean ====
section
/-! SUPPORT. A page crossing, said of the effective address. -/

namespace Sys2Proof.Machine

open Sys2Proof

/-- The low byte and the index exceed 255 exactly where the sum lies in another page (20_memory.md R59). -/
theorem carry_iff_page_changes (base : Word) (index : Byte) :
    (loByte base).toNat + index.toNat > 255 ↔ hiByte (base + zext16 index) ≠ hiByte base := by
  have hb := base.isLt
  have hi := index.isLt
  rw [ne_eq, ← BitVec.toNat_inj, hiByte_toNat, hiByte_toNat, loByte_toNat, BitVec.toNat_add, zext16_toNat]
  omega

/-- `ea` is the base plus the index in every mode that has both. -/
theorem ea_of_indexedBase {m : MemMode} {s : State} {base : Word} {index : Byte}
    (h : indexedBase m s = some (base, index)) : (ea m s).1 = base + zext16 index := by
  cases m <;> simp_all [indexedBase, ea]

/-- A mode crosses a page exactly where its effective address lies outside its base's page (R59). -/
theorem crossesPage_iff (m : MemMode) (s : State) :
    crossesPage m s = true ↔
      ∃ base index, indexedBase m s = some (base, index) ∧ hiByte (ea m s).1 ≠ hiByte base := by
  unfold crossesPage
  split
  · rename_i base index h
    simp [h, ea_of_indexedBase h, ← carry_iff_page_changes]
  · rename_i h; simp [h]

end Sys2Proof.Machine
end

