-- ==== Sys2Proof/Machine/Assembly.lean ====
section
/-! DEFINITION. The source's assembly form of an instruction (30_encoding.md R109). No step uses it. -/

namespace Sys2Proof.Machine

open Sys2Proof

/-- Three upper-case letters (R109). -/
def mnemonicText : Mnemonic → String
  | .adc => "ADC" | .and => "AND" | .asl => "ASL" | .bcc => "BCC" | .bcs => "BCS" | .beq => "BEQ" | .bit => "BIT"
  | .bmi => "BMI" | .bne => "BNE" | .bpl => "BPL" | .brk => "BRK" | .bvc => "BVC" | .bvs => "BVS" | .clc => "CLC"
  | .cld => "CLD" | .cli => "CLI" | .clv => "CLV" | .cmp => "CMP" | .cpx => "CPX" | .cpy => "CPY" | .dec => "DEC"
  | .dex => "DEX" | .dey => "DEY" | .eor => "EOR" | .inc => "INC" | .inx => "INX" | .iny => "INY" | .jmp => "JMP"
  | .jsr => "JSR" | .lda => "LDA" | .ldx => "LDX" | .ldy => "LDY" | .lsr => "LSR" | .nop => "NOP" | .ora => "ORA"
  | .pha => "PHA" | .php => "PHP" | .pla => "PLA" | .plp => "PLP" | .rol => "ROL" | .ror => "ROR" | .rti => "RTI"
  | .rts => "RTS" | .sbc => "SBC" | .sec => "SEC" | .sed => "SED" | .sei => "SEI" | .sta => "STA" | .stx => "STX"
  | .sty => "STY" | .tax => "TAX" | .tay => "TAY" | .tsx => "TSX" | .txa => "TXA" | .txs => "TXS" | .tya => "TYA"

/-- One hexadecimal digit. -/
def hexDigit (n : Nat) : String :=
  match n % 16 with
  | 0 => "0" | 1 => "1" | 2 => "2" | 3 => "3" | 4 => "4" | 5 => "5" | 6 => "6" | 7 => "7"
  | 8 => "8" | 9 => "9" | 10 => "A" | 11 => "B" | 12 => "C" | 13 => "D" | 14 => "E" | _ => "F"

/-- A byte as `$` and two digits. -/
def byteText (b : Byte) : String := "$" ++ hexDigit (b.toNat / 16) ++ hexDigit b.toNat

/-- A 16-bit value as `$` and four digits. -/
def wordText (w : Word) : String :=
  "$" ++ hexDigit (w.toNat / 4096) ++ hexDigit (w.toNat / 256) ++ hexDigit (w.toNat / 16) ++ hexDigit w.toNat

/-- The operand in its shape (R109). A branch names its target, so the text depends on the address `pc0`. -/
def operandText (pc0 : Word) : Mode → String
  | .imp | .stk => ""
  | .acc => " A"
  | .imm b => " #" ++ byteText b
  | .mem (.zp b) => " " ++ byteText b
  | .mem (.zpx b) => " " ++ byteText b ++ ",X"
  | .mem (.zpy b) => " " ++ byteText b ++ ",Y"
  | .mem (.abs w) => " " ++ wordText w
  | .mem (.abx w) => " " ++ wordText w ++ ",X"
  | .mem (.aby w) => " " ++ wordText w ++ ",Y"
  | .mem (.izx b) => " (" ++ byteText b ++ ",X)"
  | .mem (.izy b) => " (" ++ byteText b ++ "),Y"
  | .rel d => " " ++ wordText (pc0 + 2 + BitVec.ofInt 16 d)
  | .ind w => " (" ++ wordText w ++ ")"

/-- The assembly form of the instruction at `pc0` (R109). The illegal forms share the legal spellings. -/
def assembly (pc0 : Word) (i : Instr) : String := mnemonicText i.mnemonic ++ operandText pc0 i.mode

end Sys2Proof.Machine
end

