-- ==== Sys2Proof/Tests/Slice0.lean ====
section
/-! SUPPORT. Small tests. Expected results come from the spec: the encodings of opcode_table.json, the rules' worked
examples, and the vectors of 95_test_vectors.md (named in each comment). The `witness_` theorems show states and
operands that meet the hypotheses of the statements. -/

namespace Sys2Proof.Tests

open Sys2Proof Sys2Proof.Machine

/-! ### Well-formedness -/

theorem test_wf_refuses_displacement_above : Instr.wf (.bcc 128) = false := by decide
theorem test_wf_refuses_displacement_below : Instr.wf (.bvs (-129)) = false := by decide
theorem test_wf_takes_displacement_ends : Instr.wf (.beq 127) = true ∧ Instr.wf (.bne (-128)) = true := by decide
theorem test_decode_refuses_unlisted : decode [0x02, 0x10] = .error (.unlistedOpcode 0x02) := rfl
theorem test_decode_refuses_truncated : decode [0x6D, 0x34] = .error .truncated := rfl

/-! ### Decoding: a word of every row, written out from the row's encoding. The operand byte of a 2-byte row is $F2
(a displacement of -14), the operand of a 3-byte row $12F2. -/

theorem test_decode_alu_1 : ([(16, 0xF261), (16, 0xF265), (16, 0xF269), (24, 0x12F26D), (16, 0xF271), (16, 0xF275), (24, 0x12F279),
    (24, 0x12F27D), (16, 0xF221), (16, 0xF225), (16, 0xF229), (24, 0x12F22D), (16, 0xF231), (16, 0xF235),
    (24, 0x12F239), (24, 0x12F23D), (16, 0xF224), (24, 0x12F22C), (16, 0xF2C1), (16, 0xF2C5), (16, 0xF2C9),
    (24, 0x12F2CD), (16, 0xF2D1), (16, 0xF2D5)] : List (Nat × Nat)).map (fun c => decodeTableWord c.1 c.2) =
    ([.adcIzx 0xF2, .adcZp 0xF2, .adcImm 0xF2, .adcAbs 0x12F2, .adcIzy 0xF2, .adcZpx 0xF2, .adcAby 0x12F2,
    .adcAbx 0x12F2, .andIzx 0xF2, .andZp 0xF2, .andImm 0xF2, .andAbs 0x12F2, .andIzy 0xF2, .andZpx 0xF2,
    .andAby 0x12F2, .andAbx 0x12F2, .bitZp 0xF2, .bitAbs 0x12F2, .cmpIzx 0xF2, .cmpZp 0xF2, .cmpImm 0xF2,
    .cmpAbs 0x12F2, .cmpIzy 0xF2, .cmpZpx 0xF2] : List Instr).map some := by decide

theorem test_decode_alu_2 : ([(24, 0x12F2D9), (24, 0x12F2DD), (16, 0xF2E0), (16, 0xF2E4), (24, 0x12F2EC), (16, 0xF2C0), (16, 0xF2C4),
    (24, 0x12F2CC), (16, 0xF241), (16, 0xF245), (16, 0xF249), (24, 0x12F24D), (16, 0xF251), (16, 0xF255),
    (24, 0x12F259), (24, 0x12F25D), (16, 0xF201), (16, 0xF205), (16, 0xF209), (24, 0x12F20D), (16, 0xF211),
    (16, 0xF215), (24, 0x12F219), (24, 0x12F21D)] : List (Nat × Nat)).map (fun c => decodeTableWord c.1 c.2) =
    ([.cmpAby 0x12F2, .cmpAbx 0x12F2, .cpxImm 0xF2, .cpxZp 0xF2, .cpxAbs 0x12F2, .cpyImm 0xF2, .cpyZp 0xF2,
    .cpyAbs 0x12F2, .eorIzx 0xF2, .eorZp 0xF2, .eorImm 0xF2, .eorAbs 0x12F2, .eorIzy 0xF2, .eorZpx 0xF2,
    .eorAby 0x12F2, .eorAbx 0x12F2, .oraIzx 0xF2, .oraZp 0xF2, .oraImm 0xF2, .oraAbs 0x12F2, .oraIzy 0xF2,
    .oraZpx 0xF2, .oraAby 0x12F2, .oraAbx 0x12F2] : List Instr).map some := by decide

theorem test_decode_alu_3 : ([(16, 0xF2E1), (16, 0xF2E5), (16, 0xF2E9), (16, 0xF2EB), (24, 0x12F2ED), (16, 0xF2F1), (16, 0xF2F5),
    (24, 0x12F2F9), (24, 0x12F2FD)] : List (Nat × Nat)).map (fun c => decodeTableWord c.1 c.2) =
    ([.sbcIzx 0xF2, .sbcZp 0xF2, .sbcImm 0xF2, .sbcImmEB 0xF2, .sbcAbs 0x12F2, .sbcIzy 0xF2, .sbcZpx 0xF2,
    .sbcAby 0x12F2, .sbcAbx 0x12F2] : List Instr).map some := by decide

theorem test_decode_shift : ([(16, 0xF206), (8, 0x0A), (24, 0x12F20E), (16, 0xF216), (24, 0x12F21E), (16, 0xF246), (8, 0x4A),
    (24, 0x12F24E), (16, 0xF256), (24, 0x12F25E), (16, 0xF226), (8, 0x2A), (24, 0x12F22E), (16, 0xF236),
    (24, 0x12F23E), (16, 0xF266), (8, 0x6A), (24, 0x12F26E), (16, 0xF276), (24, 0x12F27E)] : List (Nat × Nat)).map (fun c => decodeTableWord c.1 c.2) =
    ([.aslZp 0xF2, .aslAcc, .aslAbs 0x12F2, .aslZpx 0xF2, .aslAbx 0x12F2, .lsrZp 0xF2, .lsrAcc, .lsrAbs 0x12F2,
    .lsrZpx 0xF2, .lsrAbx 0x12F2, .rolZp 0xF2, .rolAcc, .rolAbs 0x12F2, .rolZpx 0xF2, .rolAbx 0x12F2,
    .rorZp 0xF2, .rorAcc, .rorAbs 0x12F2, .rorZpx 0xF2, .rorAbx 0x12F2] : List Instr).map some := by decide

theorem test_decode_branch : ([(16, 0xF290), (16, 0xF2B0), (16, 0xF2F0), (16, 0xF230), (16, 0xF2D0), (16, 0xF210), (16, 0xF250),
    (16, 0xF270)] : List (Nat × Nat)).map (fun c => decodeTableWord c.1 c.2) =
    ([.bcc (-14), .bcs (-14), .beq (-14), .bmi (-14), .bne (-14), .bpl (-14), .bvc (-14), .bvs (-14)] : List Instr).map some := by decide

theorem test_decode_brk_rti_nop_1 : ([(8, 0x00), (8, 0x40), (16, 0xF204), (24, 0x12F20C), (16, 0xF214), (8, 0x1A), (24, 0x12F21C), (16, 0xF234),
    (8, 0x3A), (24, 0x12F23C), (16, 0xF244), (16, 0xF254), (8, 0x5A), (24, 0x12F25C), (16, 0xF264),
    (16, 0xF274), (8, 0x7A), (24, 0x12F27C), (16, 0xF280), (16, 0xF282), (16, 0xF289), (16, 0xF2C2),
    (16, 0xF2D4), (8, 0xDA)] : List (Nat × Nat)).map (fun c => decodeTableWord c.1 c.2) =
    ([.brk, .rti, .nopZp04 0xF2, .nopAbs0C 0x12F2, .nopZpx14 0xF2, .nopImp1A, .nopAbx1C 0x12F2, .nopZpx34 0xF2,
    .nopImp3A, .nopAbx3C 0x12F2, .nopZp44 0xF2, .nopZpx54 0xF2, .nopImp5A, .nopAbx5C 0x12F2, .nopZp64 0xF2,
    .nopZpx74 0xF2, .nopImp7A, .nopAbx7C 0x12F2, .nopImm80 0xF2, .nopImm82 0xF2, .nopImm89 0xF2,
    .nopImmC2 0xF2, .nopZpxD4 0xF2, .nopImpDA] : List Instr).map some := by decide

theorem test_decode_brk_rti_nop_2 : ([(24, 0x12F2DC), (16, 0xF2E2), (8, 0xEA), (16, 0xF2F4), (8, 0xFA), (24, 0x12F2FC)] : List (Nat × Nat)).map (fun c => decodeTableWord c.1 c.2) =
    ([.nopAbxDC 0x12F2, .nopImmE2 0xF2, .nop, .nopZpxF4 0xF2, .nopImpFA, .nopAbxFC 0x12F2] : List Instr).map some := by decide

theorem test_decode_flags : ([(8, 0x18), (8, 0xD8), (8, 0x58), (8, 0xB8), (8, 0x38), (8, 0xF8), (8, 0x78)] : List (Nat × Nat)).map (fun c => decodeTableWord c.1 c.2) =
    ([.clc, .cld, .cli, .clv, .sec, .sed, .sei] : List Instr).map some := by decide

theorem test_decode_inc_dec : ([(16, 0xF2C6), (24, 0x12F2CE), (16, 0xF2D6), (24, 0x12F2DE), (8, 0xCA), (8, 0x88), (16, 0xF2E6),
    (24, 0x12F2EE), (16, 0xF2F6), (24, 0x12F2FE), (8, 0xE8), (8, 0xC8)] : List (Nat × Nat)).map (fun c => decodeTableWord c.1 c.2) =
    ([.decZp 0xF2, .decAbs 0x12F2, .decZpx 0xF2, .decAbx 0x12F2, .dex, .dey, .incZp 0xF2, .incAbs 0x12F2,
    .incZpx 0xF2, .incAbx 0x12F2, .inx, .iny] : List Instr).map some := by decide

theorem test_decode_jump : ([(24, 0x12F24C), (24, 0x12F26C), (24, 0x12F220), (8, 0x60)] : List (Nat × Nat)).map (fun c => decodeTableWord c.1 c.2) =
    ([.jmpAbs 0x12F2, .jmpInd 0x12F2, .jsr 0x12F2, .rts] : List Instr).map some := by decide

theorem test_decode_load_store_1 : ([(16, 0xF2A1), (16, 0xF2A5), (16, 0xF2A9), (24, 0x12F2AD), (16, 0xF2B1), (16, 0xF2B5), (24, 0x12F2B9),
    (24, 0x12F2BD), (16, 0xF2A2), (16, 0xF2A6), (24, 0x12F2AE), (16, 0xF2B6), (24, 0x12F2BE), (16, 0xF2A0),
    (16, 0xF2A4), (24, 0x12F2AC), (16, 0xF2B4), (24, 0x12F2BC), (16, 0xF281), (16, 0xF285), (24, 0x12F28D),
    (16, 0xF291), (16, 0xF295), (24, 0x12F299)] : List (Nat × Nat)).map (fun c => decodeTableWord c.1 c.2) =
    ([.ldaIzx 0xF2, .ldaZp 0xF2, .ldaImm 0xF2, .ldaAbs 0x12F2, .ldaIzy 0xF2, .ldaZpx 0xF2, .ldaAby 0x12F2,
    .ldaAbx 0x12F2, .ldxImm 0xF2, .ldxZp 0xF2, .ldxAbs 0x12F2, .ldxZpy 0xF2, .ldxAby 0x12F2, .ldyImm 0xF2,
    .ldyZp 0xF2, .ldyAbs 0x12F2, .ldyZpx 0xF2, .ldyAbx 0x12F2, .staIzx 0xF2, .staZp 0xF2, .staAbs 0x12F2,
    .staIzy 0xF2, .staZpx 0xF2, .staAby 0x12F2] : List Instr).map some := by decide

theorem test_decode_load_store_2 : ([(24, 0x12F29D), (16, 0xF286), (24, 0x12F28E), (16, 0xF296), (16, 0xF284), (24, 0x12F28C), (16, 0xF294)] : List (Nat × Nat)).map (fun c => decodeTableWord c.1 c.2) =
    ([.staAbx 0x12F2, .stxZp 0xF2, .stxAbs 0x12F2, .stxZpy 0xF2, .styZp 0xF2, .styAbs 0x12F2, .styZpx 0xF2] : List Instr).map some := by decide

theorem test_decode_stack : ([(8, 0x48), (8, 0x08), (8, 0x68), (8, 0x28)] : List (Nat × Nat)).map (fun c => decodeTableWord c.1 c.2) =
    ([.pha, .php, .pla, .plp] : List Instr).map some := by decide

theorem test_decode_transfer : ([(8, 0xAA), (8, 0xA8), (8, 0xBA), (8, 0x8A), (8, 0x9A), (8, 0x98)] : List (Nat × Nat)).map (fun c => decodeTableWord c.1 c.2) =
    ([.tax, .tay, .tsx, .txa, .txs, .tya] : List Instr).map some := by decide

/-! ### One step from a small state: 64 KiB of RAM, no line asserted, S = $FF, every flag clear -/

/-- The platform of the vectors of 95_test_vectors.md. -/
def plain : Params := { brkD := .clear, iLatency := .exact, port := .plainRam, platform := [] }

/-- Their default start. -/
def start : State :=
  { State.reset with sp := 0xFF, pc := 0x1000, p := Flags.unpack 0, params := plain }

/-- Bytes placed from an address on. -/
def put (s : State) (addr : Word) : List Byte → State
  | [] => s
  | b :: rest => put (s.poke addr b) (addr + 1) rest

/-- Bytes placed at PC. -/
def code (s : State) (bs : List Byte) : State := put s s.pc bs

/-- Part of the state after one step. -/
def look {α : Type} (f : State → α) (s : State) : Option α :=
  match step s with
  | .next t => some (f t)
  | .fault _ => none
  | .refused _ => none

/-- The six flags as one byte, bits 5 and 4 clear: N V 0 0 D I Z C. -/
def flagsByte (t : State) : Byte := t.p.pack false &&& 0xCF

/-- The writes of the record, newest first. -/
def writes (t : State) : List (Word × Byte) :=
  t.trace.filterMap fun c =>
    match c with
    | .write a v => some (a, v)
    | .read _ _ => none

-- ALU-03: carry-in alone causes overflow
theorem test_adc_alu_03 : look (fun t => (t.a, flagsByte t))
    (code { start with a := 0x7F, p := Flags.unpack 0x01 } [0x69, 0x00]) = some (0x80, 0xC0) := by decide

-- ALU-16: decimal: 58 + 46 + 1 = 105
theorem test_adc_alu_16 : look (fun t => (t.a, flagsByte t))
    (code { start with a := 0x58, p := Flags.unpack 0x09 } [0x69, 0x46]) = some (0x05, 0xC9) := by decide

-- ALU-19: AND negative; C, V untouched
theorem test_and_alu_19 : look (fun t => (t.a, flagsByte t))
    (code { start with a := 0x8F, p := Flags.unpack 0x41 } [0x29, 0xF0]) = some (0x80, 0xC1) := by decide

-- ALU-24: BIT: Z from A and M, N, V from M; A unchanged
theorem test_bit_alu_24 : look (fun t => (t.a, flagsByte t))
    (put (code { start with a := 0x01 } [0x24, 0x10]) 0x0010 [0xC0]) = some (0x01, 0xC2) := by decide

-- ALU-30: CMP: difference $01, C=0; V stays 1
theorem test_cmp_alu_30 : look (fun t => (t.a, flagsByte t))
    (code { start with p := Flags.unpack 0x40 } [0xC9, 0xFF]) = some (0x00, 0x40) := by decide

-- ALU-31: CMP ignores D; N=1, C=1
theorem test_cmp_alu_31 : look (fun t => (t.a, flagsByte t))
    (code { start with a := 0x80, p := Flags.unpack 0x08 } [0xC9, 0x00]) = some (0x80, 0x89) := by decide

-- ALU-33: CPX ZeroPage below: $FF, C=0, N=1
theorem test_cpx_alu_33 : look (fun t => (t.x, flagsByte t))
    (put (code start [0xE4, 0x20]) 0x0020 [0x01]) = some (0x00, 0x80) := by decide

-- ALU-35: CPY Absolute: $7F - $80 = $FF, C=0
theorem test_cpy_alu_35 : look (fun t => (t.y, flagsByte t))
    (put (code { start with y := 0x7F } [0xCC, 0x00, 0x30]) 0x3000 [0x80]) = some (0x7F, 0x80) := by decide

-- ALU-23: EOR complement
theorem test_eor_alu_23 : look (fun t => (t.a, flagsByte t))
    (code { start with a := 0x0F } [0x49, 0xFF]) = some (0xF0, 0x80) := by decide

-- ALU-20: ORA
theorem test_ora_alu_20 : look (fun t => (t.a, flagsByte t))
    (code { start with a := 0x01 } [0x09, 0x80]) = some (0x81, 0x80) := by decide

-- ALU-39: SBC: -128 - 1 overflows: $7F, V=1
theorem test_sbc_alu_39 : look (fun t => (t.a, flagsByte t))
    (code { start with a := 0x80, p := Flags.unpack 0x01 } [0xE9, 0x01]) = some (0x7F, 0x41) := by decide

-- ALU-47: illegal $EB in decimal mode: 10 - 01 = 09
theorem test_sbc_alu_47 : look (fun t => (t.a, flagsByte t))
    (code { start with a := 0x10, p := Flags.unpack 0x09 } [0xEB, 0x01]) = some (0x09, 0x09) := by decide

-- SHF-02: ASL ignores old C; N=1
theorem test_asl_shf_02 : look (fun t => (t.a, flagsByte t))
    (code { start with a := 0x40, p := Flags.unpack 0x01 } [0x0A]) = some (0x80, 0x80) := by decide

-- SHF-03: ASL ZeroPage: read then one write
theorem test_asl_shf_03 : look (fun t => (writes t, flagsByte t))
    (put (code start [0x06, 0x10]) 0x0010 [0x81]) = some ([(0x0010, 0x02)], 0x01) := by decide

-- SHF-04: LSR A: bit 0 to C, Z=1, N forced to 0
theorem test_lsr_shf_04 : look (fun t => (t.a, flagsByte t))
    (code { start with a := 0x01, p := Flags.unpack 0x80 } [0x4A]) = some (0x00, 0x03) := by decide

-- SHF-06: LSR ZeroPage,X wraps to $0010
theorem test_lsr_shf_06 : look (fun t => (writes t, flagsByte t))
    (put (code { start with x := 0x20 } [0x56, 0xF0]) 0x0010 [0x02]) = some ([(0x0010, 0x01)], 0x00) := by decide

-- SHF-07: ROL A: old C to bit 0, bit 7 to C
theorem test_rol_shf_07 : look (fun t => (t.a, flagsByte t))
    (code { start with a := 0x80, p := Flags.unpack 0x01 } [0x2A]) = some (0x01, 0x01) := by decide

-- SHF-09: ROL Absolute: $81
theorem test_rol_shf_09 : look (fun t => (writes t, flagsByte t))
    (put (code { start with p := Flags.unpack 0x01 } [0x2E, 0x00, 0x20]) 0x2000 [0x40]) = some ([(0x2000, 0x81)], 0x80) := by decide

-- SHF-10: ROR A: old C to bit 7, bit 0 to C
theorem test_ror_shf_10 : look (fun t => (t.a, flagsByte t))
    (code { start with a := 0x01, p := Flags.unpack 0x01 } [0x6A]) = some (0x80, 0x81) := by decide

-- SHF-12: ROR Absolute,X crossing a page: $80, C=0
theorem test_ror_shf_12 : look (fun t => (writes t, flagsByte t))
    (put (code { start with x := 0x01, p := Flags.unpack 0x01 } [0x7E, 0xFF, 0x20]) 0x2100 [0x00]) = some ([(0x2100, 0x80)], 0x80) := by decide

-- BRA-01: BCC taken
theorem test_bcc_bra_01 : look (fun t => t.pc)
    (code start [0x90, 0x05]) = some 0x1007 := by decide

-- BRA-03: BCS to itself
theorem test_bcs_bra_03 : look (fun t => t.pc)
    (code { start with p := Flags.unpack 0x01 } [0xB0, 0xFE]) = some 0x1000 := by decide

-- BRA-04: BCS not taken
theorem test_bcs_bra_04 : look (fun t => t.pc)
    (code start [0xB0, 0xFE]) = some 0x1002 := by decide

-- BRA-05: BEQ taken into the next page
theorem test_beq_bra_05 : look (fun t => t.pc)
    (code { start with pc := 0x10F0, p := Flags.unpack 0x02 } [0xF0, 0x10]) = some 0x1102 := by decide

-- BRA-07: BMI farthest backward: pc0 - 126
theorem test_bmi_bra_07 : look (fun t => t.pc)
    (code { start with p := Flags.unpack 0x80 } [0x30, 0x80]) = some 0x0F82 := by decide

-- BRA-09: BNE backward by 3
theorem test_bne_bra_09 : look (fun t => t.pc)
    (code { start with pc := 0x0603 } [0xD0, 0xFD]) = some 0x0602 := by decide

-- BRA-10: BNE not taken
theorem test_bne_bra_10 : look (fun t => t.pc)
    (code { start with pc := 0x0603, p := Flags.unpack 0x02 } [0xD0, 0xFD]) = some 0x0605 := by decide

-- BRA-11: BPL farthest forward: pc0 + 129
theorem test_bpl_bra_11 : look (fun t => t.pc)
    (code start [0x10, 0x7F]) = some 0x1081 := by decide

-- BRA-13: BVC: target wraps past $FFFF to $0001
theorem test_bvc_bra_13 : look (fun t => t.pc)
    (code { start with pc := 0xFFFD } [0x50, 0x02]) = some 0x0001 := by decide

-- BRA-16: BVS backward below $0000 wraps to $FFF7
theorem test_bvs_bra_16 : look (fun t => t.pc)
    (code { start with pc := 0x0005, p := Flags.unpack 0x40 } [0x70, 0xF0]) = some 0xFFF7 := by decide

-- BRK-02: not masked by I=1; pushed P = $FC has D=1; D cleared after (BRK_D = clear)
theorem test_brk_brk_02 : look (fun t => (t.pc, writes t, flagsByte t))
    (put (code { start with pc := 0x1234, p := Flags.unpack 0xCC } [0x00, 0xEA]) 0xFFFE [0x00, 0x80]) = some (0x8000, [(0x01FD, 0xFC), (0x01FE, 0x36), (0x01FF, 0x12)], 0xC4) := by decide

-- BRK-03: the same under BRK_D = keep: D stays 1
theorem test_brk_brk_03 : look (fun t => (t.pc, writes t, flagsByte t))
    (put (code { start with pc := 0x1234, p := Flags.unpack 0xCC, params := { plain with brkD := .keep } } [0x00, 0xEA]) 0xFFFE [0x00, 0x80]) = some (0x8000, [(0x01FD, 0xFC), (0x01FE, 0x36), (0x01FF, 0x12)], 0xCC) := by decide

-- BRK-08: RTI: pulled $CF with bits 5, 4 clear: all six flags 1; PC = $FFFF
theorem test_rti_brk_08 : look (fun t => (t.sp, t.pc, flagsByte t))
    (put (code { start with sp := 0xFC } [0x40]) 0x01FD [0xCF, 0xFF, 0xFF]) = some (0xFF, 0xFFFF, 0xCF) := by decide

-- BRK-09: RTI with S wrapping: pulls from $01FF, $0100, $0101
theorem test_rti_brk_09 : look (fun t => (t.sp, t.pc, flagsByte t))
    (put (put (code { start with sp := 0xFE } [0x40]) 0x0100 [0x34, 0x12]) 0x01FF [0x01]) = some (0x01, 0x1234, 0x01) := by decide

-- BRK-10: NOP: only PC changes
theorem test_nop_brk_10 : look (fun t => (t.pc, flagsByte t))
    (code { start with a := 0x12, x := 0x34, y := 0x56, p := Flags.unpack 0xCF } [0xEA]) = some (0x1001, 0xCF) := by decide

-- BRK-18: $5C: a 3-byte NOP Absolute,X on the 6510, not JMP long: PC = $1003
theorem test_nop_brk_18 : look (fun t => (t.pc, flagsByte t))
    (code start [0x5C, 0x00, 0x80, 0x01]) = some (0x1003, 0x00) := by decide

-- FLG-01: CLC
theorem test_clc_flg_01 : look (fun t => flagsByte t)
    (code { start with p := Flags.unpack 0xCF } [0x18]) = some 0xCE := by decide

-- FLG-02: CLD
theorem test_cld_flg_02 : look (fun t => flagsByte t)
    (code { start with p := Flags.unpack 0xCF } [0xD8]) = some 0xC7 := by decide

-- FLG-03: CLI (sets irq_inhibit_next because I changed)
theorem test_cli_flg_03 : look (fun t => flagsByte t)
    (code { start with p := Flags.unpack 0xCF } [0x58]) = some 0xCB := by decide

-- FLG-04: CLV
theorem test_clv_flg_04 : look (fun t => flagsByte t)
    (code { start with p := Flags.unpack 0xCF } [0xB8]) = some 0x8F := by decide

-- FLG-05: SEC
theorem test_sec_flg_05 : look (fun t => flagsByte t)
    (code start [0x38]) = some 0x01 := by decide

-- FLG-06: SED
theorem test_sed_flg_06 : look (fun t => flagsByte t)
    (code start [0xF8]) = some 0x08 := by decide

-- FLG-07: SEI (sets irq_inhibit_next because I changed)
theorem test_sei_flg_07 : look (fun t => flagsByte t)
    (code start [0x78]) = some 0x04 := by decide

-- INC-02: INC $7F = $80: N=1, V not set
theorem test_inc_inc_02 : look (fun t => (writes t, flagsByte t))
    (put (code start [0xEE, 0x00, 0x20]) 0x2000 [0x7F]) = some ([(0x2000, 0x80)], 0x80) := by decide

-- INC-03: INC ZeroPage,X wraps to $0000
theorem test_inc_inc_03 : look (fun t => (writes t, flagsByte t))
    (put (put (code { start with x := 0x01 } [0xF6, 0xFF]) 0x0000 [0x01]) 0x0100 [0x55]) = some ([(0x0000, 0x02)], 0x00) := by decide

-- INC-05: DEC wraps to $FF
theorem test_dec_inc_05 : look (fun t => (writes t, flagsByte t))
    (put (code start [0xC6, 0x10]) 0x0010 [0x00]) = some ([(0x0010, 0xFF)], 0x80) := by decide

-- INC-07: DEC Absolute,X: binary even with D=1 ($0F, not $09)
theorem test_dec_inc_07 : look (fun t => (writes t, flagsByte t))
    (put (code { start with x := 0x05, p := Flags.unpack 0x08 } [0xDE, 0x00, 0x20]) 0x2005 [0x10]) = some ([(0x2005, 0x0F)], 0x08) := by decide

-- INC-08: DEX wraps
theorem test_dex_inc_08 : look (fun t => (t.x, flagsByte t))
    (code start [0xCA]) = some (0xFF, 0x80) := by decide

-- INC-10: DEY $80 = $7F
theorem test_dey_inc_10 : look (fun t => (t.y, flagsByte t))
    (code { start with y := 0x80 } [0x88]) = some (0x7F, 0x00) := by decide

-- INC-11: INX wraps to $00; no carry
theorem test_inx_inc_11 : look (fun t => (t.x, flagsByte t))
    (code { start with x := 0xFF } [0xE8]) = some (0x00, 0x02) := by decide

-- INC-13: INY changes Y, not X (90_conflicts.md C1)
theorem test_iny_inc_13 : look (fun t => (t.y, flagsByte t))
    (code { start with x := 0x11, y := 0x22 } [0xC8]) = some (0x23, 0x00) := by decide

-- JMP-01: JMP Absolute: flags untouched
theorem test_jmp_jmp_01 : look (fun t => t.pc)
    (code { start with p := Flags.unpack 0xCF } [0x4C, 0x34, 0x12]) = some 0x1234 := by decide

-- JMP-04: pointer at $30FF: high byte from $3000, not $3100 (JMP_IND_WRAP, rule R191)
theorem test_jmp_jmp_04 : look (fun t => t.pc)
    (put (put (code start [0x6C, 0xFF, 0x30]) 0x3000 [0x56]) 0x30FF [0x78, 0x99]) = some 0x5678 := by decide

-- JMP-06: JSR: return address $1100; stack wraps: writes $0100 then $01FF
theorem test_jsr_jmp_06 : look (fun t => (t.pc, writes t))
    (code { start with sp := 0x00, pc := 0x10FE } [0x20, 0xCD, 0xAB]) = some (0xABCD, [(0x01FF, 0x00), (0x0100, 0x11)]) := by decide

-- JMP-07: JSR executed from the stack page with its last byte at $01FF: the push of $01 overwrites the operand byte before it is read (rule R192), so PC = $0100, not $5500
theorem test_jsr_jmp_07 : look (fun t => (t.pc, writes t))
    (code { start with pc := 0x01FD } [0x20, 0x00, 0x55]) = some (0x0100, [(0x01FE, 0xFF), (0x01FF, 0x01)]) := by decide

-- JMP-08: RTS: pulls $36, $12; PC = $1237
theorem test_rts_jmp_08 : look (fun t => (t.sp, t.pc))
    (put (code { start with sp := 0xFD } [0x60]) 0x01FE [0x36, 0x12]) = some (0xFF, 0x1237) := by decide

-- JMP-10: RTS with S wrapping: pulls from $0100, $0101
theorem test_rts_jmp_10 : look (fun t => (t.sp, t.pc))
    (put (code start [0x60]) 0x0100 [0x02, 0x03]) = some (0x01, 0x0303) := by decide

-- LDS-02: LDA negative; C, V untouched
theorem test_lda_lds_02 : look (fun t => (t.a, flagsByte t))
    (code { start with p := Flags.unpack 0x43 } [0xA9, 0x80]) = some (0x80, 0xC1) := by decide

-- LDS-10: LDA (Indirect),Y: $FFFF + $FF wraps to $00FE
theorem test_lda_lds_10 : look (fun t => (t.a, flagsByte t))
    (put (put (code { start with y := 0xFF } [0xB1, 0x20]) 0x0020 [0xFF, 0xFF]) 0x00FE [0x44]) = some (0x44, 0x00) := by decide

-- LDS-12: LDX ZeroPage,Y wraps to $0010
theorem test_ldx_lds_12 : look (fun t => (t.x, flagsByte t))
    (put (code { start with y := 0x20 } [0xB6, 0xF0]) 0x0010 [0x66]) = some (0x66, 0x00) := by decide

-- LDS-16: LDY Absolute,X
theorem test_ldy_lds_16 : look (fun t => (t.y, flagsByte t))
    (put (code { start with x := 0x01 } [0xBC, 0xFF, 0x20]) 0x2100 [0x7E]) = some (0x7E, 0x00) := by decide

-- LDS-22: STA (Indirect,X): pointer address $10+$F0 wraps to $00
theorem test_sta_lds_22 : look (fun t => writes t)
    (put (code { start with a := 0x56, x := 0xF0 } [0x81, 0x10]) 0x0000 [0x00, 0x40]) = some [(0x4000, 0x56)] := by decide

-- LDS-23: STA (Indirect),Y to $4108
theorem test_sta_lds_23 : look (fun t => writes t)
    (put (code { start with a := 0x78, y := 0x10 } [0x91, 0x20]) 0x0020 [0xF8, 0x40]) = some [(0x4108, 0x78)] := by decide

-- LDS-25: STX ZeroPage,Y
theorem test_stx_lds_25 : look (fun t => writes t)
    (code { start with x := 0x9A, y := 0x05 } [0x96, 0x10]) = some [(0x0015, 0x9A)] := by decide

-- LDS-28: STY ZeroPage,X
theorem test_sty_lds_28 : look (fun t => writes t)
    (code { start with x := 0x05, y := 0xBC } [0x94, 0x10]) = some [(0x0015, 0xBC)] := by decide

-- STK-02: PHA at S=$00: writes $0100, S wraps to $FF
theorem test_pha_stk_02 : look (fun t => writes t)
    (code { start with a := 0xAB, sp := 0x00 } [0x48]) = some [(0x0100, 0xAB)] := by decide

-- STK-03: PHP: $BD = N, bit 5, bit 4, D, I, C
theorem test_php_stk_03 : look (fun t => (writes t, flagsByte t))
    (code { start with p := Flags.unpack 0x8D } [0x08]) = some ([(0x01FF, 0xBD)], 0x8D) := by decide

-- STK-07: PLA at S=$FF: S wraps to $00, reads $0100; N=1
theorem test_pla_stk_07 : look (fun t => (t.a, flagsByte t))
    (put (code start [0x68]) 0x0100 [0x80]) = some (0x80, 0x80) := by decide

-- STK-09: PLP $30: all six flags 0; bits 5, 4 discarded
theorem test_plp_stk_09 : look (fun t => (t.sp, flagsByte t))
    (put (code { start with sp := 0xFE, p := Flags.unpack 0xCF } [0x28]) 0x01FF [0x30]) = some (0xFF, 0x00) := by decide

-- TRF-01: TAX negative
theorem test_tax_trf_01 : look (fun t => (t.x, flagsByte t))
    (code { start with a := 0x80, x := 0x01 } [0xAA]) = some (0x80, 0x80) := by decide

-- TRF-03: TAY
theorem test_tay_trf_03 : look (fun t => (t.y, flagsByte t))
    (code { start with a := 0x7F } [0xA8]) = some (0x7F, 0x00) := by decide

-- TRF-04: TSX: N=1
theorem test_tsx_trf_04 : look (fun t => (t.x, flagsByte t))
    (code start [0xBA]) = some (0xFF, 0x80) := by decide

-- TRF-06: TXA zero
theorem test_txa_trf_06 : look (fun t => (t.a, flagsByte t))
    (code { start with a := 0x12 } [0x8A]) = some (0x00, 0x02) := by decide

-- TRF-07: TXS: S=$00 and no flag changes (Z stays 0, N stays 1)
theorem test_txs_trf_07 : look (fun t => (t.sp, flagsByte t))
    (code { start with p := Flags.unpack 0x80 } [0x9A]) = some (0x00, 0x80) := by decide

-- TRF-09: TYA
theorem test_tya_trf_09 : look (fun t => (t.a, flagsByte t))
    (code { start with y := 0xFF } [0x98]) = some (0xFF, 0x80) := by decide

/-! ### Boundaries (60_exceptions.md), on the vectors' machine with its three vectors in place -/

/-- NMI handler $3000, reset $E000, IRQ handler $2000 (95_test_vectors.md 2.12). -/
def vectored : State := put (put (put start 0xFFFA [0x00, 0x30]) 0xFFFC [0x00, 0xE0]) 0xFFFE [0x00, 0x20]

def quiet : Lines := { irq := false, nmi := false, res := false }
def irqLine : Lines := { quiet with irq := true }
def nmiLine : Lines := { quiet with nmi := true }
def resLine : Lines := { quiet with res := true }

/-- A sample with no pulse of NMI since the one before. -/
def sampled (l : Lines) : Sample := { lines := l, nmiPulse := false }

-- INT-01: IRQ taken; pushed status $A1.
theorem test_irq_entry_int_01 :
    look (fun t => (t.pc, t.sp, writes t)) { vectored with pc := 0x1234, p := Flags.unpack 0x81, lines := irqLine } =
      some (0x2000, 0xFC, [(0x01FD, 0xA1), (0x01FE, 0x34), (0x01FF, 0x12)]) := by decide

-- INT-02: I = 1 masks the IRQ; NOP runs.
theorem test_irq_masked_int_02 :
    look (fun t => (t.pc, t.sp)) (code { vectored with pc := 0x1234, p := Flags.unpack 0x04, lines := irqLine } [0xEA]) =
      some (0x1235, 0xFF) := by decide

-- INT-03: NMI wins over IRQ, D is kept, the pending bit is cleared.
theorem test_nmi_entry_int_03 :
    look (fun t => (t.pc, writes t, flagsByte t, t.nmiPending))
      { vectored with pc := 0x1234, p := Flags.unpack 0x0E, lines := irqLine, nmiPending := true } =
      some (0x3000, [(0x01FD, 0x2E), (0x01FE, 0x34), (0x01FF, 0x12)], 0x0E, false) := by decide

-- INT-04: after CLI one more instruction runs before the IRQ.
theorem test_latency_int_04 :
    look (fun t => (t.pc, t.irqInhibitNext))
      (code { vectored with pc := 0x1001, lines := irqLine, irqInhibitNext := true } [0xEA]) =
      some (0x1002, false) := by decide

-- INT-05: with I_LATENCY = none CLI leaves no note.
theorem test_no_latency_int_05 :
    look (fun t => (t.p.i, t.irqInhibitNext))
      (code { vectored with p := Flags.unpack 0x04, params := { plain with iLatency := .none } } [0x58]) =
      some (false, false) := by decide

-- INT-06: after SEI a pending IRQ is taken once, with I = 1 in the pushed status.
theorem test_latency_int_06 :
    look (fun t => (t.pc, writes t))
      { vectored with pc := 0x1001, p := Flags.unpack 0x04, lines := irqLine, irqInhibitNext := true } =
      some (0x2000, [(0x01FD, 0x24), (0x01FE, 0x01), (0x01FF, 0x10)]) := by decide

-- INT-09: the frame wraps inside page one.
theorem test_nmi_stack_wrap_int_09 :
    look (fun t => (t.sp, writes t)) { vectored with sp := 0x01, nmiPending := true } =
      some (0xFE, [(0x01FF, 0x20), (0x0100, 0x00), (0x0101, 0x10)]) := by decide

-- INT-10: reset changes S, I and PC, clears the pending bit and writes nothing.
theorem test_reset_int_10 :
    look (fun t => (t.sp, t.pc, t.p.pack t.nmiPending, writes t))
      { vectored with sp := 0x80, pc := 0x4321, p := Flags.unpack 0xCB, nmiPending := true,
                      lines := resLine, schedule := [sampled quiet] } =
      some (0x7D, 0xE000, 0xEF, []) := by decide

-- R43: while RES is asserted nothing runs.
theorem test_held_in_reset :
    look (fun t => (t.pc, t.trace)) (code { start with lines := resLine } [0xEA]) = some (0x1000, []) := by decide

-- R234: an edge is latched, a held level is not latched again.
theorem test_nmi_edge :
    ({ start with schedule := [sampled nmiLine] } : State).sampleLines.nmiPending = true ∧
    ({ start with lines := nmiLine, schedule := [sampled nmiLine] } : State).sampleLines.nmiPending = false := by decide

-- R234, D4: released and asserted again between two boundaries at which the line is seen asserted.
theorem test_nmi_pulse :
    ({ start with lines := nmiLine, schedule := [⟨nmiLine, true⟩] } : State).boundary.1 = .nmi := by decide

-- REF-01, REF-03: the lowest and the highest unlisted opcode.
theorem test_unlisted_ref_01 : look State.pc (code start [0x02]) = none := by decide
theorem test_unlisted_ref_03 : look State.pc (code start [0xFF]) = none := by decide

-- R68, D18: RAM nothing has written holds a free byte, one per address; a write is read back.
theorem test_power_on_ram : (start.load 0x4000).1 = Config.powerOnByte 0x4000 ∧
    ((start.store 0x4000 0x00).load 0x4000).1 = 0x00 := ⟨rfl, rfl⟩

-- An instruction placed after reset is the one the next step runs.
theorem test_placed_after_reset :
    look (fun t => (t.pc, t.x)) (State.reset.withFetchWord 16 0x80A2) = some (0x0202, 0x80) := by decide

/-! ### The port and the platform (10_state.md R38, 20_memory.md R57) -/

/-- A machine with the port, ROM from $E000, a device page at $D000 and nothing at $C000. -/
def ported : State :=
  { start with params := { plain with
      port := .device
      platform := [⟨0xE000, 0x2000, .rom⟩, ⟨0xD000, 0x100, .device⟩, ⟨0xC000, 0x100, .unmapped⟩] } }

-- R38: output bits read the latch, input bits the pins, bits 7 and 6 the environment.
theorem test_port_read :
    (({ ported with portDdr := 0x0F, portLatch := 0x35, answers := [0xEA] } : State).load 1).1 = 0xE5 := by decide

-- R38: a write keeps six bits.
theorem test_port_write : ((ported.store 0 0xFF).portDdr, (ported.store 1 0xC1).portLatch) = (0x3F, 0x01) := by decide

-- R57: a write to ROM is ignored, but recorded.
theorem test_rom_write : ((ported.store 0xE000 0x55).mem, (ported.store 0xE000 0x55).trace) =
    ([], [.write 0xE000 0x55]) := by decide

-- R57: a device read gives what the environment answers.
theorem test_device_read : (({ ported with answers := [0x7B] } : State).load 0xD020).1 = 0x7B := by decide

/-! ### Timing and text -/

-- 42_branches.md R153: $10F0 to $1102 crosses a page, 4 cycles.
theorem test_branch_cycles : baseCycles (.beq 0x10) + penaltyCycles (.beq 0x10) true 0x10F2 start = 4 := by decide

-- 70_reset_and_hazards.md R276: a read crossing a page takes 5, a store always 5.
theorem test_indexed_cycles :
    (baseCycles (.ldaAbx 0x20FF) + penaltyCycles (.ldaAbx 0x20FF) false 0 { start with x := 1 },
      baseCycles (.staAbx 0x20FF) + penaltyCycles (.staAbx 0x20FF) false 0 { start with x := 1 }) = (5, 5) := by
  decide

-- BRA-09: BNE at $0603 with displacement -3.
theorem test_assembly : assembly 0x0603 (.bne (-3)) = "BNE $0602" := by decide

-- R59: with the port at $0000, the base of (Indirect),Y is what the port reads.
theorem test_crossing_reads_the_port :
    crossesPage (.izy 0x00) { ported with portDdr := 0x3F, y := 0x01, answers := [0xC0, 0x00] } = true ∧
    crossesPage (.izy 0x00) { ported with portDdr := 0x3E, y := 0x01, answers := [0xC0, 0x00] } = false := by decide

-- D10: JMP to itself ends a run.
theorem test_self_jump : halted .selfJump (code start [0x4C, 0x00, 0x10]) = true := by decide

/-! ### Witnesses: the hypotheses of each statement can be met -/

/-- Two bytes of stack, zero page and code, and A, X, Y, S at values that make every sum wrap. -/
def edge : State :=
  put (put (put { start with a := 0x99, x := 0xFF, y := 0x01, sp := 0x00 } 0x00FF [0x34, 0x12]) 0x0000 [0x20, 0x30])
    0x1000 [0x20, 0x00, 0x40]

theorem witness_unlisted_opcodes :
    decode [0x02] = .error (.unlistedOpcode 0x02) ∧ decode [0xFF, 0x00] = .error (.unlistedOpcode 0xFF) ∧
    decode [0x00] = .ok (.brk, []) := ⟨rfl, rfl, rfl⟩

theorem witness_decode_of_encode : (Instr.bpl 127).wf = true ∧ (Instr.jmpInd 0x12FF).wf = true := by decide

theorem witness_encode_of_decode : decode [0x6D, 0x34, 0x12, 0xEA] = .ok (.adcAbs 0x1234, [0xEA]) := rfl

theorem witness_opcode_alone :
    decode [0x91, 0x20] = .ok (.staIzy 0x20, []) ∧ decode [0x91, 0xFF, 0x00] = .ok (.staIzy 0xFF, [0x00]) :=
  ⟨rfl, rfl⟩

/-- The hypotheses of `StepRunsDecodedInstruction` at a state. -/
def Runs (s : State) (i : Instr) (rest : List Byte) : Prop :=
  s.schedule = [] ∧ s.lines.res = false ∧ s.nmiPending = false ∧
  (s.lines.irq = true → (s.p.i ^^ s.irqInhibitNext) = true) ∧
  Readable s s.pc ∧ Readable s (s.pc + 1) ∧ Readable s (s.pc + 2) ∧
  decode [s.peek s.pc, s.peek (s.pc + 1), s.peek (s.pc + 2)] = .ok (i, rest)

theorem witness_step_one_byte : Runs (code start [0xEA, 0x00, 0x01]) .nop [0x00, 0x01] :=
  ⟨rfl, rfl, rfl, by decide, .inl rfl, .inl rfl, .inl rfl, rfl⟩
theorem witness_step_two_bytes_irq_masked :
    Runs (code { start with pc := 0xFFFE, p := Flags.unpack 0x04, lines := irqLine } [0xA9, 0x80, 0x01])
      (.ldaImm 0x80) [0x01] :=
  ⟨rfl, rfl, rfl, by decide, .inl rfl, .inl rfl, .inl rfl, rfl⟩
theorem witness_step_three_bytes : Runs (code start [0x8D, 0x01, 0x10]) (.staAbs 0x1001) [] :=
  ⟨rfl, rfl, rfl, by decide, .inl rfl, .inl rfl, .inl rfl, rfl⟩
theorem witness_step_jsr_in_rom : Runs (code { ported with pc := 0xE000 } [0x20, 0x34, 0x12]) (.jsr 0x1234) [] :=
  ⟨rfl, rfl, rfl, by decide, .inr rfl, .inr rfl, .inr rfl, rfl⟩

theorem witness_boundary_choice :
    (({ start with lines := resLine } : State).boundary.1, ({ start with lines := resLine, schedule := [sampled quiet] } : State).boundary.1,
      ({ start with nmiPending := true, lines := irqLine } : State).boundary.1,
      ({ start with lines := irqLine } : State).boundary.1, start.boundary.1) =
    (.held, .reset, .nmi, .irq, .execute) := by decide

theorem witness_nmi_edge : ({ start with schedule := [⟨nmiLine, true⟩] } : State).schedule = ⟨nmiLine, true⟩ :: [] ∧
    start.schedule = [] := by decide

theorem witness_refused : (code start [0x02]).boundary.1 = .execute ∧
    shapeOf ((code start [0x02]).boundary.2.load 0x1000).1 = none ∧
    ¬ (shapeOf ((code start [0xFE]).boundary.2.load 0x1000).1 = none) ∧
    ({ start with lines := resLine } : State).boundary.1 ≠ .execute := by decide

theorem witness_nmi_entry : ({ edge with nmiPending := true } : State).boundary.1 = .nmi ∧
    Readable { edge with nmiPending := true } 0xFFFA ∧ Readable { edge with nmiPending := true } 0xFFFB :=
  ⟨by decide, .inl rfl, .inl rfl⟩

theorem witness_irq_entry : ({ edge with lines := irqLine } : State).boundary.1 = .irq ∧
    Readable { edge with lines := irqLine } 0xFFFE ∧ Readable { edge with lines := irqLine } 0xFFFF :=
  ⟨by decide, .inl rfl, .inl rfl⟩

/-- Reset about to be taken, with the port and without it. -/
def released (s : State) : State := { s with lines := resLine, schedule := [sampled quiet] }

theorem witness_reset_step :
    (released ported).boundary.1 = .reset ∧ (released ported).params.port = .device ∧
    (released start).boundary.1 = .reset ∧ (released start).params.port = .plainRam ∧
    Readable (released ported) 0xFFFC ∧ Readable (released ported) 0xFFFD :=
  ⟨rfl, rfl, rfl, rfl, .inr rfl, .inr rfl⟩

theorem witness_held : ({ start with schedule := [sampled resLine] } : State).sampleLines.lines.res = true := by decide

theorem witness_latency : start.irqInhibitNext = false ∧
    ([.cli, .sei, .plp, .rti] : List Instr).map Instr.mnemonic = [Mnemonic.cli, .sei, .plp, .rti] ∧
    start.params.iLatency = .exact := by decide

theorem witness_effective_addresses :
    (0x00FF : Word).toNat = ((0x00 : Byte).toNat + edge.x.toNat) % 256 ∧
    (0x0000 : Word).toNat = ((0x00 : Byte).toNat + edge.x.toNat + 1) % 256 ∧
    (0x00FF : Word).toNat = (0xFF : Byte).toNat ∧ (0x0000 : Word).toNat = ((0xFF : Byte).toNat + 1) % 256 ∧
    Readable edge 0x00FF ∧ Readable edge 0x0000 :=
  ⟨by decide, by decide, by decide, by decide, .inl rfl, .inl rfl⟩

theorem witness_operand_read : Readable edge (ea (.aby 0xFFFF) edge).1 ∧ Readable ported (ea (.abs 0xFFFF) ported).1 :=
  ⟨.inl rfl, .inr rfl⟩

theorem witness_loads : ([.ldaImm 0x80, .ldxZpy 0xF0, .ldyAbx 0x20FF] : List Instr).map Instr.mnemonic =
    [Mnemonic.lda, .ldx, .ldy] := by decide

theorem witness_stores : ([.staIzx 0x10, .stxZpy 0xFF, .styAbs 0x0000] : List Instr).map Instr.mnemonic =
    [Mnemonic.sta, .stx, .sty] ∧ (Instr.stxZpy 0xFF).mode = .mem (.zpy 0xFF) := by decide

theorem witness_logic : ([.andImm 0x0F, .oraIzy 0xFF, .eorAbs 0xFFFF] : List Instr).map Instr.mnemonic =
    [Mnemonic.and, .ora, .eor] := by decide

theorem witness_bit : (Instr.bitZp 0x10).mnemonic = .bit ∧ (Instr.bitAbs 0xFFFF).mnemonic = .bit := by decide

theorem witness_compares : ([.cmpImm 0xFF, .cpxZp 0x20, .cpyAbs 0x3000] : List Instr).map Instr.mnemonic =
    [Mnemonic.cmp, .cpx, .cpy] := by decide

theorem witness_adc_binary : (Instr.adcImm 0x80).mnemonic = .adc ∧ start.p.d = false := by decide

/-- The state of the decimal witnesses: A = $99, C = 1, D = 1. -/
def decimal : State := { start with a := 0x99, p := Flags.unpack 0x09 }

theorem witness_adc_decimal : (Instr.adcImm 0x99).mnemonic = .adc ∧ decimal.p.d = true ∧
    operandOf (Instr.adcImm 0x99).mode (decimal.advance 2) = some (0x99, decimal.advance 2) ∧
    isBcd decimal.a = true ∧ isBcd 0x99 = true := by decide

theorem witness_sbc : (Instr.sbcImm 0x99).mnemonic = .sbc ∧ (Instr.sbcImmEB 0x00).mnemonic = .sbc ∧
    start.p.d = false ∧ decimal.p.d = true ∧
    operandOf (Instr.sbcImmEB 0x99).mode (decimal.advance 2) = some (0x99, decimal.advance 2) ∧
    isBcd decimal.a = true ∧ isBcd 0x99 = true := by decide

theorem witness_shifts : ([.aslAcc, .lsrAcc, .rolAcc, .rorAcc] : List Instr).map Instr.mnemonic = shifts ∧
    Instr.aslAcc.mode = .acc ∧ (Instr.rorAbx 0xFFFF).mnemonic ∈ shifts ∧
    (Instr.rorAbx 0xFFFF).mode = .mem (.abx 0xFFFF) := by decide

theorem witness_inc_dec : (Instr.incZp 0xFF).mnemonic = .inc ∧ (Instr.incZp 0xFF).mode = .mem (.zp 0xFF) ∧
    (Instr.decAbx 0x00FF).mnemonic = .dec ∧ (Instr.decAbx 0x00FF).mode = .mem (.abx 0x00FF) := by decide

theorem witness_branches : (branchTest (Instr.bcc 127).mnemonic).isSome = true ∧ (Instr.bcc 127).mode = .rel 127 ∧
    (branchTest (Instr.bvs (-128)).mnemonic).isSome = true ∧ (Instr.bvs (-128)).mode = .rel (-128) := by decide

theorem witness_jump_indirect :
    (0x1200 : Word).toNat = (0x12FF : Word).toNat / 256 * 256 + ((0x12FF : Word).toNat % 256 + 1) % 256 ∧
    Readable edge 0x12FF ∧ Readable edge 0x1200 := ⟨by decide, .inl rfl, .inl rfl⟩

theorem witness_jsr_and_brk : (0x1002 : Word).toNat = (edge.pc.toNat + 2) % 65536 ∧
    (0x0001 : Word).toNat = (({ edge with pc := 0xFFFF } : State).pc.toNat + 2) % 65536 ∧ Readable edge 0x1002 ∧
    Readable edge 0xFFFE ∧ Readable edge 0xFFFF := ⟨by decide, by decide, .inl rfl, .inl rfl, .inl rfl⟩

theorem witness_pulls : Readable edge (stackAddr (edge.sp + 1)) ∧ Readable edge (stackAddr (edge.sp + 2)) ∧
    Readable edge (stackAddr (edge.sp + 3)) := ⟨.inl rfl, .inl rfl, .inl rfl⟩

theorem witness_nops : (Instr.nop).mnemonic = .nop ∧ (Instr.nopImm89 0x00).mnemonic = .nop ∧
    (Instr.nopAbxFC 0xFFFF).mode = .mem (.abx 0xFFFF) ∧ (Instr.nopImp1A).mode = .imp := by decide

theorem witness_pushes : ([.pha, .php, .pla, .plp] : List Instr).map Instr.mnemonic =
    [Mnemonic.pha, .php, .pla, .plp] := by decide

theorem witness_interrupt_return : (∀ k, k < 3 → IsRam edge (stackSlot edge k)) ∧
    (edge.enter 0x1000 false nmiVector).sp = (edge.enter 0x1000 false nmiVector).sp ∧
    (edge.enter 0x1000 false nmiVector).params = edge.params :=
  ⟨fun k hk => by match k, hk with | 0, _ => rfl | 1, _ => rfl | 2, _ => rfl, rfl, by decide⟩

theorem witness_subroutine_return : (∀ k, k < 2 → IsRam edge (stackSlot edge k)) ∧
    (callSubroutine 0x4000 (edge.advance 3)).params = edge.params :=
  ⟨fun k hk => by match k, hk with | 0, _ => rfl | 1, _ => rfl, by decide⟩

theorem witness_read_after_write : targetOf ported.params 0xDFFF = .region .ram ∧
    targetOf ported.params 0xE000 = .region .rom ∧ targetOf ported.params 0xD0FF = .region .device ∧
    targetOf ported.params 0xC000 = .region .unmapped ∧ targetOf ported.params 0x0000 = .ddr ∧
    targetOf ported.params 0x0001 = .data ∧
    ({ ported with portDdr := 0x20 } : State).portDdr.getLsbD 5 = true ∧
    (0x7B : Byte) = [0x7B].headD (Config.freeByte ported.draws) :=
  ⟨by decide, by decide, by decide, by decide, by decide, by decide, by decide, rfl⟩

theorem witness_step_invariants : MemInv edge ∧ (∃ t, step edge = .next t) ∧ edge.params.port = .plainRam ∧
    edge.params.platform = [] := ⟨by unfold MemInv; decide, ⟨_, rfl⟩, rfl, rfl⟩

/-- `STA $1001` at $1000 with A = $EA: it changes its own operand byte. -/
def selfStore : State := code { start with a := 0xEA } [0x8D, 0x01, 0x10]

theorem witness_changed_byte : ∃ t, step selfStore = .next t ∧ t.peek 0x1001 ≠ selfStore.peek 0x1001 :=
  ⟨_, rfl, by decide⟩

theorem witness_columns : (Instr.jmpAbs 0xFFFF).mnemonic ∉ writesN ∧ (Instr.incZp 0xFF).mnemonic ∉ writesV ∧
    (Instr.sei).mnemonic ∉ writesD ∧ (Instr.sed).mnemonic ∉ writesI ∧ (Instr.txs).mnemonic ∉ writesZ ∧
    (Instr.decZp 0x00).mnemonic ∉ writesC := by decide

theorem witness_register_writers : (Instr.aslZp 0x10).mnemonic ∉ writesA ∧ (Instr.aslZp 0x10).mode ≠ .acc ∧
    (Instr.stxZp 0x10).mnemonic ∉ writesX ∧ (Instr.cpyImm 0x10).mnemonic ∉ writesY ∧
    (Instr.tsx).mnemonic ∉ writesS ∧ (Instr.nop).mnemonic ∉ writesPc := by decide

end Sys2Proof.Tests
end

section
/-! What an instruction can do to the processor, said once: its accesses change memory, the port and the record
(`BusOnly`), and what is left is a change of registers given by the mnemonic (`cpuEffect`). -/

namespace Sys2Proof.Machine

open Sys2Proof

/-! ### Memory accesses leave the processor alone -/

/-- The processor of `s` (registers, flags, inputs, parameters) with the memory, port, environment and record of `b`. -/
def State.withBus (s b : State) : State :=
  { s with
    mem := b.mem, portDdr := b.portDdr, portLatch := b.portLatch
    answers := b.answers, draws := b.draws, trace := b.trace }

/-- From `s` to `t` at most what memory accesses change has changed. -/
def BusOnly (s t : State) : Prop := ∃ b, t = s.withBus b

theorem busOnly_iff {s t : State} :
    BusOnly s t ↔ t.a = s.a ∧ t.x = s.x ∧ t.y = s.y ∧ t.sp = s.sp ∧ t.pc = s.pc ∧ t.p = s.p ∧ t.lines = s.lines ∧
      t.schedule = s.schedule ∧ t.nmiPending = s.nmiPending ∧ t.irqInhibitNext = s.irqInhibitNext ∧
      t.params = s.params := by
  constructor
  · rintro ⟨b, rfl⟩
    simp [State.withBus]
  · rintro ⟨ha, hx, hy, hsp, hpc, hp, hl, hs, hn, hi, hpar⟩
    exact ⟨t, State.ext_fields (by simp [State.withBus, *])⟩

theorem BusOnly.p {s t : State} (h : BusOnly s t) : t.p = s.p := by
  obtain ⟨b, rfl⟩ := h
  rfl

theorem BusOnly.params {s t : State} (h : BusOnly s t) : t.params = s.params := by
  obtain ⟨b, rfl⟩ := h
  rfl

theorem BusOnly.refl (s : State) : BusOnly s s := ⟨s, rfl⟩

/-- What commutes with the bus keeps `BusOnly`. -/
theorem BusOnly.map {s t : State} (h : BusOnly s t) (f : State → State)
    (hf : ∀ s b, f (s.withBus b) = (f s).withBus b) : BusOnly (f s) (f t) := by
  obtain ⟨b, rfl⟩ := h
  exact ⟨b, hf s b⟩

/-- The I latency bit is noted where I changed and the parameter asks for it (60_exceptions.md R236). -/
theorem State.noteIChange_irqInhibitNext (s : State) (old : Bool) :
    (s.noteIChange old).irqInhibitNext =
      if s.params.iLatency = .exact ∧ s.p.i ≠ old then true else s.irqInhibitNext := by
  unfold State.noteIChange
  cases s.params.iLatency with
  | exact => by_cases hi : s.p.i = old <;> simp [hi]
  | none => simp

theorem BusOnly.noteIChange {s t : State} (h : BusOnly s t) (old : Bool) :
    BusOnly (s.noteIChange old) (t.noteIChange old) := by
  rw [busOnly_iff] at h
  simp [busOnly_iff, State.noteIChange_irqInhibitNext, h]

theorem busOnly_fetchOperand (m : MemMode) (s : State) : BusOnly s (fetchOperand m s).2 := busOnly_iff.mpr (by simp)

theorem busOnly_storeFrom (m : MemMode) (reg : State → Byte) (s : State) : BusOnly s (storeFrom m reg s) :=
  busOnly_iff.mpr (by simp [storeFrom])

/-- A read-modify-write leaves of the processor only the flags changed. -/
theorem busOnly_modifyMem (m : MemMode) (f : Flags → Byte → Byte × Flags) (s : State) :
    BusOnly (s.setP (f s.p (fetchOperand m s).1).2) (modifyMem m f s) :=
  busOnly_iff.mpr (by simp [modifyMem])

theorem busOnly_push (s : State) (v : Byte) : BusOnly (s.setSp (s.sp - 1)) (s.push v) := busOnly_iff.mpr (by simp)

theorem busOnly_pull (s : State) : BusOnly (s.setSp (s.sp + 1)) s.pull.2 := busOnly_iff.mpr (by simp)

/-- An operand is read without a change of the processor. -/
theorem busOnly_operandOf {mode : Mode} {s : State} {o : Byte × State} (h : operandOf mode s = some o) :
    BusOnly s o.2 := by
  cases mode with
  | mem m =>
    cases h
    exact busOnly_fetchOperand m s
  | imm _ | acc =>
    cases h
    exact .refl s
  | imp | stk | rel _ | ind _ => cases h

/-- What `f` makes of some operand byte, but for the bus; nothing where the mode has no operand. -/
theorem withOperand_cases (mode : Mode) (s : State) (f : Byte × State → State)
    (hf : ∀ v s b, f (v, s.withBus b) = (f (v, s)).withBus b) :
    BusOnly s (withOperand mode f s) ∨ ∃ v, BusOnly (f (v, s)) (withOperand mode f s) := by
  unfold withOperand
  split
  case h_1 o ho => exact .inr ⟨o.1, (busOnly_operandOf ho).map (fun t => f (o.1, t)) (hf o.1)⟩
  case h_2 => exact .inl (.refl s)

theorem withMode_storeFrom_busOnly (mode : Mode) (reg : State → Byte) (s : State) :
    BusOnly s (withMode mode (fun m s => storeFrom m reg s) id s) := by
  cases mode with
  | mem m => exact busOnly_storeFrom m reg s
  | imp | stk | acc | imm _ | rel _ | ind _ => exact .refl s

theorem withMode_modifyMem_cases (mode : Mode) (f : Flags → Byte → Byte × Flags) (s : State) :
    BusOnly s (withMode mode (fun m s => modifyMem m f s) id s) ∨
      ∃ v, BusOnly (s.setP (f s.p v).2) (withMode mode (fun m s => modifyMem m f s) id s) := by
  cases mode with
  | mem m => exact .inr ⟨_, busOnly_modifyMem m f s⟩
  | imp | stk | acc | imm _ | rel _ | ind _ => exact .inl (.refl s)

/-! ### One table of what the mnemonics do to the processor -/

/-- A shift of the byte `v`: A and the flags in Accumulator mode, the flags alone in a memory mode. -/
def cpuShift (mode : Mode) (f : Flags → Byte → Byte × Flags) (s : State) (v : Byte) : State :=
  if mode = .acc then modifyReg State.setA State.a f s else s.setP (f s.p v).2

/-- What an instruction of mnemonic `m` in `mode` does to the processor of `s`, PC already past it, where `v` is the
byte it reads and `w` the address it goes on at. -/
def cpuEffect (m : Mnemonic) (mode : Mode) (s : State) (v : Byte) (w : Word) : State :=
  match m with
  | .adc => aluA adc (v, s)
  | .sbc => aluA sbc (v, s)
  | .and => aluA andOp (v, s)
  | .eor => aluA eorOp (v, s)
  | .ora => aluA oraOp (v, s)
  | .cmp => testFlags compareFlags State.a (v, s)
  | .cpx => testFlags compareFlags State.x (v, s)
  | .cpy => testFlags compareFlags State.y (v, s)
  | .bit => testFlags bitFlags State.a (v, s)
  | .lda => loadInto State.setA (v, s)
  | .ldx => loadInto State.setX (v, s)
  | .ldy => loadInto State.setY (v, s)
  | .nop | .sta | .stx | .sty => s
  | .asl => cpuShift mode aslOp s v
  | .lsr => cpuShift mode lsrOp s v
  | .rol => cpuShift mode rolOp s v
  | .ror => cpuShift mode rorOp s v
  | .inc => s.setP (incOp s.p v).2
  | .dec => s.setP (decOp s.p v).2
  | .inx => modifyReg State.setX State.x incOp s
  | .iny => modifyReg State.setY State.y incOp s
  | .dex => modifyReg State.setX State.x decOp s
  | .dey => modifyReg State.setY State.y decOp s
  | .tax => transfer State.setX State.a s
  | .tay => transfer State.setY State.a s
  | .tsx => transfer State.setX State.sp s
  | .txa => transfer State.setA State.x s
  | .tya => transfer State.setA State.y s
  | .txs => s.setSp s.x
  | .clc => s.setP { s.p with c := false }
  | .cld => s.setP { s.p with d := false }
  | .clv => s.setP { s.p with v := false }
  | .sec => s.setP { s.p with c := true }
  | .sed => s.setP { s.p with d := true }
  | .cli => (s.setI false).noteIChange s.p.i
  | .sei => (s.setI true).noteIChange s.p.i
  | .bcc | .bcs | .beq | .bmi | .bne | .bpl | .bvc | .bvs | .jmp => s.setPc w
  | .jsr => (s.setSp (s.sp - 2)).setPc w
  | .rts => (s.setSp (s.sp + 2)).setPc w
  | .rti => ((s.setSp (s.sp + 3)).setP (Flags.unpack v)).setPc w
  | .brk => clearDOnBrk (((s.setSp (s.sp - 3)).setI true).setPc w)
  | .pha | .php => s.setSp (s.sp - 1)
  | .pla => loadInto State.setA (v, s.setSp (s.sp + 1))
  | .plp => ((s.setSp (s.sp + 1)).setP (Flags.unpack v)).noteIChange s.p.i

theorem shiftEffect_cases (mode : Mode) (f : Flags → Byte → Byte × Flags) (s : State) :
    BusOnly s (shiftEffect mode f s) ∨ ∃ v, BusOnly (cpuShift mode f s v) (shiftEffect mode f s) := by
  cases mode with
  | mem m => exact .inr ⟨_, busOnly_modifyMem m f s⟩
  | acc => exact .inr ⟨0, .refl _⟩
  | imp | stk | imm _ | rel _ | ind _ => exact .inl (.refl s)

theorem branchEffect_busOnly (mode : Mode) (cond : Bool) (s : State) :
    ∃ w, BusOnly (s.setPc w) (branchEffect mode cond s) := by
  cases mode with
  | rel d => cases cond <;> exact ⟨_, .refl _⟩
  | imp | stk | acc | imm _ | mem _ | ind _ => exact ⟨s.pc, .refl s⟩

/-- BRK clears D or keeps it, as BRK_D says, and touches nothing else (43_brk_rti_nop.md R160). -/
theorem clearDOnBrk_eq (s : State) :
    clearDOnBrk s = s.setP { s.p with d := if s.params.brkD = .keep then s.p.d else false } := by
  unfold clearDOnBrk
  cases s.params.brkD with
  | clear => simp
  | keep => rfl

theorem BusOnly.clearDOnBrk {s t : State} (h : BusOnly s t) : BusOnly (clearDOnBrk s) (clearDOnBrk t) := by
  rw [busOnly_iff] at h
  simp [busOnly_iff, clearDOnBrk_eq, h]

theorem busOnly_jumpIndirect (w : Word) (s : State) :
    BusOnly (s.setPc (jumpIndirect w s).pc) (jumpIndirect w s) := busOnly_iff.mpr (by simp [jumpIndirect])

theorem busOnly_callSubroutine (w : Word) (s : State) :
    BusOnly ((s.setSp (s.sp - 2)).setPc (callSubroutine w s).pc) (callSubroutine w s) :=
  busOnly_iff.mpr (by simp [callSubroutine])

theorem busOnly_returnFromSubroutine (s : State) :
    BusOnly ((s.setSp (s.sp + 2)).setPc (returnFromSubroutine s).pc) (returnFromSubroutine s) :=
  busOnly_iff.mpr (by simp [returnFromSubroutine])

theorem busOnly_leave (s : State) :
    BusOnly (((s.setSp (s.sp + 3)).setP (Flags.unpack s.pull.1)).setPc s.leave.pc) s.leave :=
  busOnly_iff.mpr (by simp)

theorem busOnly_enter (s : State) (ret : Word) (b : Bool) (vector : Word) :
    BusOnly (((s.setSp (s.sp - 3)).setI true).setPc (s.enter ret b vector).pc) (s.enter ret b vector) :=
  busOnly_iff.mpr (by simp)

/-- The effect of an instruction is its row of `cpuEffect`, but for the bus; in a mode that the mnemonic does not
have it may do nothing. -/
theorem effect_cases (m : Mnemonic) (mode : Mode) (s : State) :
    BusOnly (s.advance mode.length) (effect m mode s) ∨
      ∃ v w, BusOnly (cpuEffect m mode (s.advance mode.length) v w) (effect m mode s) := by
  have noAddress {P : Prop} {Q : Byte → Prop} (h : P ∨ ∃ v, Q v) : P ∨ ∃ v, ∃ _ : Word, Q v :=
    h.imp_right fun ⟨v, hv⟩ => ⟨v, 0, hv⟩
  have branch (cond : Bool) := branchEffect_busOnly mode cond (s.advance mode.length)
  cases m with
  | adc | sbc | and | eor | ora => exact noAddress (withOperand_cases mode _ (aluA _) fun _ _ _ => rfl)
  | cmp | cpx | cpy | bit => exact noAddress (withOperand_cases mode _ (testFlags _ _) fun _ _ _ => rfl)
  | lda | ldx | ldy => exact noAddress (withOperand_cases mode _ (loadInto _) fun _ _ _ => rfl)
  | nop => exact noAddress (withOperand_cases mode _ _ fun _ _ _ => rfl)
  | sta | stx | sty => exact .inl (withMode_storeFrom_busOnly mode _ _)
  | asl | lsr | rol | ror => exact noAddress (shiftEffect_cases mode _ _)
  | inc | dec => exact noAddress (withMode_modifyMem_cases mode _ _)
  | inx | iny | dex | dey | tax | tay | tsx | txa | tya | txs | clc | cld | clv | sec | sed | cli | sei =>
    exact .inr ⟨0, 0, .refl _⟩
  | bcc | bcs | beq | bmi | bne | bpl | bvc | bvs => exact .inr ⟨0, branch _⟩
  | jmp =>
    cases mode with
    | ind w => exact .inr ⟨0, _, busOnly_jumpIndirect w _⟩
    | mem m =>
      cases m with
      | abs w => exact .inr ⟨0, w, .refl _⟩
      | zp _ | zpx _ | zpy _ | abx _ | aby _ | izx _ | izy _ => exact .inl (.refl _)
    | imp | stk | acc | imm _ | rel _ => exact .inl (.refl _)
  | jsr =>
    cases mode with
    | mem m =>
      cases m with
      | abs w => exact .inr ⟨0, _, busOnly_callSubroutine w _⟩
      | zp _ | zpx _ | zpy _ | abx _ | aby _ | izx _ | izy _ => exact .inl (.refl _)
    | imp | stk | acc | imm _ | rel _ | ind _ => exact .inl (.refl _)
  | rts => exact .inr ⟨0, _, busOnly_returnFromSubroutine _⟩
  | rti => exact .inr ⟨_, _, busOnly_leave _⟩
  | brk => exact .inr ⟨0, _, (busOnly_enter s _ _ _).clearDOnBrk⟩
  | pha | php => exact .inr ⟨0, 0, busOnly_push _ _⟩
  | pla => exact .inr ⟨_, 0, (busOnly_pull _).map (fun t => loadInto State.setA (_, t)) fun _ _ => rfl⟩
  | plp => exact .inr ⟨_, 0, ((busOnly_pull _).map (·.setP _) fun _ _ => rfl).noteIChange _⟩

/-! ### What the flag operations leave alone -/

section
variable (p : Flags) (a m v : Byte) (b c : Bool)

@[simp] theorem Flags.setNZ_frame : (p.setNZ v).v = p.v ∧ (p.setNZ v).d = p.d ∧ (p.setNZ v).i = p.i ∧
    (p.setNZ v).c = p.c := ⟨rfl, rfl, rfl, rfl⟩

@[simp] theorem adc_frame : (adc p a m).2.d = p.d ∧ (adc p a m).2.i = p.i := by
  unfold adc
  split <;> exact ⟨rfl, rfl⟩

@[simp] theorem sbc_frame : (sbc p a m).2.d = p.d ∧ (sbc p a m).2.i = p.i := ⟨rfl, rfl⟩

@[simp] theorem andOp_frame : (andOp p a m).2.v = p.v ∧ (andOp p a m).2.d = p.d ∧ (andOp p a m).2.i = p.i ∧
    (andOp p a m).2.c = p.c := ⟨rfl, rfl, rfl, rfl⟩

@[simp] theorem eorOp_frame : (eorOp p a m).2.v = p.v ∧ (eorOp p a m).2.d = p.d ∧ (eorOp p a m).2.i = p.i ∧
    (eorOp p a m).2.c = p.c := ⟨rfl, rfl, rfl, rfl⟩

@[simp] theorem oraOp_frame : (oraOp p a m).2.v = p.v ∧ (oraOp p a m).2.d = p.d ∧ (oraOp p a m).2.i = p.i ∧
    (oraOp p a m).2.c = p.c := ⟨rfl, rfl, rfl, rfl⟩

@[simp] theorem compareFlags_frame : (compareFlags p a m).v = p.v ∧ (compareFlags p a m).d = p.d ∧
    (compareFlags p a m).i = p.i := ⟨rfl, rfl, rfl⟩

@[simp] theorem bitFlags_frame : (bitFlags p a m).d = p.d ∧ (bitFlags p a m).i = p.i ∧
    (bitFlags p a m).c = p.c := ⟨rfl, rfl, rfl⟩

@[simp] theorem aslOp_frame : (aslOp p v).2.v = p.v ∧ (aslOp p v).2.d = p.d ∧ (aslOp p v).2.i = p.i :=
  ⟨rfl, rfl, rfl⟩

@[simp] theorem lsrOp_frame : (lsrOp p v).2.v = p.v ∧ (lsrOp p v).2.d = p.d ∧ (lsrOp p v).2.i = p.i :=
  ⟨rfl, rfl, rfl⟩

@[simp] theorem rolOp_frame : (rolOp p v).2.v = p.v ∧ (rolOp p v).2.d = p.d ∧ (rolOp p v).2.i = p.i :=
  ⟨rfl, rfl, rfl⟩

@[simp] theorem rorOp_frame : (rorOp p v).2.v = p.v ∧ (rorOp p v).2.d = p.d ∧ (rorOp p v).2.i = p.i :=
  ⟨rfl, rfl, rfl⟩

@[simp] theorem incOp_frame : (incOp p v).2.v = p.v ∧ (incOp p v).2.d = p.d ∧ (incOp p v).2.i = p.i ∧
    (incOp p v).2.c = p.c := ⟨rfl, rfl, rfl, rfl⟩

@[simp] theorem decOp_frame : (decOp p v).2.v = p.v ∧ (decOp p v).2.d = p.d ∧ (decOp p v).2.i = p.i ∧
    (decOp p v).2.c = p.c := ⟨rfl, rfl, rfl, rfl⟩

end

/-! ### The fields of the shapes -/

section
variable (s : State) (o : Byte × State) (set : State → Byte → State) (reg : State → Byte)

@[simp] theorem aluA_fields (f : Flags → Byte → Byte → Byte × Flags) :
    (aluA f o).p = (f o.2.p o.2.a o.1).2 ∧ (aluA f o).x = o.2.x ∧ (aluA f o).y = o.2.y ∧
      (aluA f o).sp = o.2.sp ∧ (aluA f o).pc = o.2.pc ∧ (aluA f o).params = o.2.params :=
  ⟨rfl, rfl, rfl, rfl, rfl, rfl⟩

@[simp] theorem testFlags_fields (f : Flags → Byte → Byte → Flags) :
    (testFlags f reg o).p = f o.2.p (reg o.2) o.1 ∧ (testFlags f reg o).a = o.2.a ∧
      (testFlags f reg o).x = o.2.x ∧ (testFlags f reg o).y = o.2.y ∧ (testFlags f reg o).sp = o.2.sp ∧
      (testFlags f reg o).pc = o.2.pc ∧ (testFlags f reg o).params = o.2.params :=
  ⟨rfl, rfl, rfl, rfl, rfl, rfl, rfl⟩

@[simp] theorem loadInto_fields :
    (loadInto set o).p = o.2.p.setNZ o.1 ∧ (loadInto set o).a = (set o.2 o.1).a ∧
      (loadInto set o).x = (set o.2 o.1).x ∧ (loadInto set o).y = (set o.2 o.1).y ∧
      (loadInto set o).sp = (set o.2 o.1).sp ∧ (loadInto set o).pc = (set o.2 o.1).pc ∧
      (loadInto set o).params = (set o.2 o.1).params :=
  ⟨rfl, rfl, rfl, rfl, rfl, rfl, rfl⟩

@[simp] theorem modifyReg_fields (f : Flags → Byte → Byte × Flags) :
    (modifyReg set reg f s).p = (f s.p (reg s)).2 ∧
      (modifyReg set reg f s).a = (set s (f s.p (reg s)).1).a ∧
      (modifyReg set reg f s).x = (set s (f s.p (reg s)).1).x ∧
      (modifyReg set reg f s).y = (set s (f s.p (reg s)).1).y ∧
      (modifyReg set reg f s).sp = (set s (f s.p (reg s)).1).sp ∧
      (modifyReg set reg f s).pc = (set s (f s.p (reg s)).1).pc ∧
      (modifyReg set reg f s).params = (set s (f s.p (reg s)).1).params :=
  ⟨rfl, rfl, rfl, rfl, rfl, rfl, rfl⟩

@[simp] theorem transfer_fields :
    (transfer set reg s).p = s.p.setNZ (reg s) ∧ (transfer set reg s).a = (set s (reg s)).a ∧
      (transfer set reg s).x = (set s (reg s)).x ∧ (transfer set reg s).y = (set s (reg s)).y ∧
      (transfer set reg s).sp = (set s (reg s)).sp ∧ (transfer set reg s).pc = (set s (reg s)).pc ∧
      (transfer set reg s).params = (set s (reg s)).params :=
  ⟨rfl, rfl, rfl, rfl, rfl, rfl, rfl⟩

/-- A shift writes A in Accumulator mode only (10_state.md R20). -/
@[simp] theorem cpuShift_fields (mode : Mode) (f : Flags → Byte → Byte × Flags) (v : Byte) :
    (cpuShift mode f s v).p = (f s.p (if mode = .acc then s.a else v)).2 ∧
      (mode ≠ .acc → (cpuShift mode f s v).a = s.a) ∧ (cpuShift mode f s v).x = s.x ∧
      (cpuShift mode f s v).y = s.y ∧ (cpuShift mode f s v).sp = s.sp ∧ (cpuShift mode f s v).pc = s.pc ∧
      (cpuShift mode f s v).params = s.params := by
  by_cases hm : mode = .acc <;> simp [cpuShift, hm]

end

/-! ### The columns of the flag table and the writers of each register -/

/-- From `p` to `q` only flags whose column marks `m` have changed (10_state.md R36). -/
structure OnlyItsFlags (m : Mnemonic) (p q : Flags) : Prop where
  n : m ∉ writesN → q.n = p.n
  v : m ∉ writesV → q.v = p.v
  d : m ∉ writesD → q.d = p.d
  i : m ∉ writesI → q.i = p.i
  z : m ∉ writesZ → q.z = p.z
  c : m ∉ writesC → q.c = p.c

/-- From `s` to `t` only registers whose rule lists `m` as writing them have changed (10_state.md R20 to R25). -/
structure OnlyItsRegisters (m : Mnemonic) (mode : Mode) (s t : State) : Prop where
  a : m ∉ writesA → ¬ (m ∈ shifts ∧ mode = .acc) → t.a = s.a
  x : m ∉ writesX → t.x = s.x
  y : m ∉ writesY → t.y = s.y
  sp : m ∉ writesS → t.sp = s.sp
  pc : m ∉ writesPc → t.pc = s.pc

theorem OnlyItsFlags.refl (m : Mnemonic) (p : Flags) : OnlyItsFlags m p p := by
  constructor <;> intro _ <;> rfl

theorem OnlyItsRegisters.refl (m : Mnemonic) (mode : Mode) (s : State) : OnlyItsRegisters m mode s s := by
  constructor <;> intros <;> rfl

theorem OnlyItsRegisters.of_busOnly {m : Mnemonic} {mode : Mode} {s t u : State} (h : OnlyItsRegisters m mode s t)
    (hb : BusOnly t u) : OnlyItsRegisters m mode s u := by
  obtain ⟨ha, hx, hy, hsp, hpc⟩ := h
  obtain ⟨b, rfl⟩ := hb
  exact ⟨ha, hx, hy, hsp, hpc⟩

/-- Row by row, a flag's column marks the mnemonic or the row's shape keeps the flag. -/
theorem cpuEffect_onlyItsFlags (m : Mnemonic) (mode : Mode) (s : State) (v : Byte) (w : Word) :
    OnlyItsFlags m s.p (cpuEffect m mode s v w).p := by
  constructor
  case n => cases m <;> simp [cpuEffect, writesN, clearDOnBrk_eq]
  case v => cases m <;> simp [cpuEffect, writesV, clearDOnBrk_eq]
  case d => cases m <;> simp [cpuEffect, writesD]
  case i => cases m <;> simp [cpuEffect, writesI]
  case z => cases m <;> simp [cpuEffect, writesZ, clearDOnBrk_eq]
  case c => cases m <;> simp [cpuEffect, writesC, clearDOnBrk_eq]

/-- Row by row, a register's rule lists the mnemonic or the row writes other fields. -/
theorem cpuEffect_onlyItsRegisters (m : Mnemonic) (mode : Mode) (s : State) (v : Byte) (w : Word) :
    OnlyItsRegisters m mode s (cpuEffect m mode s v w) := by
  constructor
  case a => cases m <;> simp +contextual [cpuEffect, writesA, shifts, clearDOnBrk_eq]
  case x => cases m <;> simp [cpuEffect, writesX, clearDOnBrk_eq]
  case y => cases m <;> simp [cpuEffect, writesY, clearDOnBrk_eq]
  case sp => cases m <;> simp [cpuEffect, writesS]
  case pc => cases m <;> simp [cpuEffect, writesPc]

theorem cpuEffect_params (m : Mnemonic) (mode : Mode) (s : State) (v : Byte) (w : Word) :
    (cpuEffect m mode s v w).params = s.params := by
  cases m <;> simp [cpuEffect, clearDOnBrk_eq]

theorem effect_onlyItsFlags (m : Mnemonic) (mode : Mode) (s : State) : OnlyItsFlags m s.p (effect m mode s).p := by
  rcases effect_cases m mode s with h | ⟨v, w, h⟩ <;> rw [h.p]
  · exact .refl m s.p
  · exact cpuEffect_onlyItsFlags m mode (s.advance mode.length) v w

theorem effect_onlyItsRegisters (m : Mnemonic) (mode : Mode) (s : State) :
    OnlyItsRegisters m mode (s.advance mode.length) (effect m mode s) := by
  rcases effect_cases m mode s with h | ⟨v, w, h⟩
  · exact (OnlyItsRegisters.refl m mode _).of_busOnly h
  · exact (cpuEffect_onlyItsRegisters m mode _ v w).of_busOnly h

theorem effect_params (m : Mnemonic) (mode : Mode) (s : State) : (effect m mode s).params = s.params := by
  rcases effect_cases m mode s with h | ⟨v, w, h⟩
  · exact h.params
  · exact h.params.trans (cpuEffect_params m mode _ v w)

/-! ### The step around an instruction -/

theorem fetch_params (s : State) : (fetch s).state.params = s.params := by
  unfold fetch
  dsimp only
  split <;> split <;> simp

theorem runInstruction_params {s t : State} (h : runInstruction s = .next t) : t.params = s.params := by
  unfold runInstruction at h
  split at h
  · rw [exec_eq_effect] at h
    cases h
    rw [effect_params, fetch_params]
  · cases h

/-- Where RES is asserted the boundary takes the sample and nothing else (10_state.md R43). -/
theorem State.boundary_of_res {s : State} (h : s.sampleLines.lines.res = true) :
    s.boundary = (.held, s.sampleLines) := by
  simp [State.boundary, State.event, h]

/-! ### The status byte -/

/-- The eight bits of `PackP` (10_state.md R34), for each of the 64 sets of flags and both values of bit 4. -/
@[simp] theorem Flags.getElem_pack (p : Flags) (b : Bool) :
    (p.pack b)[0] = p.c ∧ (p.pack b)[1] = p.z ∧ (p.pack b)[2] = p.i ∧ (p.pack b)[3] = p.d ∧
      (p.pack b)[4] = b ∧ (p.pack b)[5] = true ∧ (p.pack b)[6] = p.v ∧ (p.pack b)[7] = p.n := by
  obtain ⟨n, v, d, i, z, c⟩ := p
  revert n v d i z c b
  decide

theorem Flags.unpack_pack (p : Flags) (b : Bool) : Flags.unpack (p.pack b) = p := by
  simp [Flags.unpack]

/-- Packing what was unpacked from `v` fixes bits 5 and 4 of `v` and keeps the rest (R34). -/
theorem Flags.pack_unpack (v : Byte) (b : Bool) :
    (Flags.unpack v).pack b = (v &&& 0xCF) ||| 0x20 ||| (if b then 0x10 else 0) := by
  refine BitVec.eq_of_getLsbD_eq fun k hk => ?_
  interval_cases k <;> cases b <;> simp [Flags.unpack]

end Sys2Proof.Machine
end

section
/-! The statements of 10_state.md. -/

namespace Sys2Proof.Proofs

open Sys2Proof Sys2Proof.Machine

/-- Settles O15: the boundary answers `held` with the sampled state, which differs from `s` in the inputs alone. -/
theorem heldInReset : Obligations.HeldInReset := by
  intro s hres
  have hstep : step s = .next s.sampleLines := by simp [step, State.boundary_of_res hres]
  exact ⟨s.sampleLines, hstep, by constructor <;> simp, by simp, by simp, by simp [SameMemory, State.peek],
    by constructor <;> simp, by constructor <;> simp, by simp, by simp⟩

/-- Settles O50, from the eight bits of the packed byte. -/
theorem packAndUnpackStatus : Obligations.PackAndUnpackStatus := by
  exact ⟨fun p b => ⟨p.unpack_pack b, by simp, by simp⟩, Flags.pack_unpack⟩

/-- Settles O56, by what a boundary can lead to. -/
theorem stepKeepsParameters : Obligations.StepKeepsParameters := by
  intro s t hstep
  unfold step at hstep
  rcases s.boundary_cases with h | h | h | h | h <;> rw [h] at hstep
  case inr.inr.inr.inr => simpa using runInstruction_params hstep
  all_goals
    cases hstep
    simp

/-- Settles O57: the effect of an instruction is confined to its flag columns. -/
theorem flagColumns : Obligations.FlagColumns := by
  intro i s
  obtain ⟨hn, hv, hd, hi, hz, hc⟩ := effect_onlyItsFlags i.mnemonic i.mode s
  exact ⟨_, exec_eq_effect i s, hn, hv, hd, hi, hz, hc⟩

/-- Settles O58: the effect of an instruction, PC past it, is confined to the registers it is listed under. -/
theorem registerWriters : Obligations.RegisterWriters := by
  intro i s
  obtain ⟨ha, hx, hy, hsp, hpc⟩ := effect_onlyItsRegisters i.mnemonic i.mode s
  exact ⟨_, exec_eq_effect i s, ha, hx, hy, hsp, hpc⟩

/-- Settles O16: the vector of a memory that lists nothing reads the two power-on bytes PC is made of. -/
theorem resetStateDefinedValues : Obligations.ResetStateDefinedValues := by
  have hlo := State.load_plain (s := State.reset) (addr := 0xFFFC) (.inl rfl)
  refine ⟨rfl, rfl, rfl, rfl, rfl, ?_⟩
  rw [State.loadWord, hlo, State.load_plain (.inl rfl)]
  rfl

/-- Settles O55: a memory that lists nothing is in order. -/
theorem resetHasMemoryForm : Obligations.ResetHasMemoryForm := reset_mem_wf

end Sys2Proof.Proofs
end

section
/-! A step as a run of memory accesses, said once: whatever a boundary or an instruction does is a series of single
reads and writes, with changes of registers between them (`Accesses`). What every read and every write keeps, every
step keeps, by induction on the series. -/

namespace Sys2Proof.Machine

open Sys2Proof

/-! ### Series of accesses -/

/-- What only a memory access can change: memory, the environment's bookkeeping and the record; and with them the
parameters, which nothing changes (10_state.md R45). -/
def State.bus (s : State) : Memory × List Byte × Nat × List Access × Params :=
  (s.mem, s.answers, s.draws, s.trace, s.params)

theorem State.bus_eq_iff {s t : State} : t.bus = s.bus ↔
    t.mem = s.mem ∧ t.answers = s.answers ∧ t.draws = s.draws ∧ t.trace = s.trace ∧ t.params = s.params := by
  simp [State.bus]

/-- `t` is reached from `s` by reads and writes (20_memory.md R57), one after another, and by changes of registers,
flags and lines between them. -/
inductive Accesses (s : State) : State → Prop where
  | start : Accesses s s
  | load {t : State} (h : Accesses s t) (addr : Word) : Accesses s (t.load addr).2
  | store {t : State} (h : Accesses s t) (addr : Word) (v : Byte) : Accesses s (t.store addr v)
  | internal {t u : State} (h : Accesses s t) (same : u.bus = t.bus) : Accesses s u

namespace Accesses

variable {s t : State} (h : Accesses s t)
include h

/-! ### The shared operations are such series -/

theorem setSp (v : Byte) : Accesses s (t.setSp v) := h.internal rfl

theorem setPc (v : Word) : Accesses s (t.setPc v) := h.internal rfl

theorem setP (v : Flags) : Accesses s (t.setP v) := h.internal rfl

theorem setI (v : Bool) : Accesses s (t.setI v) := h.internal rfl

theorem setNmiPending (v : Bool) : Accesses s (t.setNmiPending v) := h.internal rfl

theorem setInhibit (v : Bool) : Accesses s (t.setInhibit v) := h.internal rfl

theorem loadWord (addr : Word) : Accesses s (t.loadWord addr).2 := (h.load addr).load (addr + 1)

theorem loadZpWord (z : Byte) : Accesses s (t.loadZpWord z).2 := (h.load (zext16 z)).load (zext16 (z + 1))

theorem loadIndirect (w : Word) : Accesses s (t.loadIndirect w).2 :=
  (h.load w).load (wordOf (loByte w + 1) (hiByte w))

theorem push (v : Byte) : Accesses s (t.push v) := (h.store (stackAddr t.sp) v).setSp (t.sp - 1)

theorem pushWord (w : Word) : Accesses s (t.pushWord w) := (h.push (hiByte w)).push (loByte w)

theorem pull : Accesses s t.pull.2 := (h.setSp (t.sp + 1)).load (stackAddr (t.sp + 1))

theorem pullWord : Accesses s t.pullWord.2 := h.pull.pull

theorem enter (ret : Word) (b : Bool) (vector : Word) : Accesses s (t.enter ret b vector) :=
  ((((h.pushWord ret).push (t.p.pack b)).setI true).loadWord vector).setPc _

theorem leave : Accesses s t.leave := ((h.pull.setP (Flags.unpack t.pull.1)).pullWord).setPc _

theorem resetSequence : Accesses s t.resetSequence := by
  unfold State.resetSequence
  refine ((h.internal ?_).loadWord resetVector).setPc _
  cases t.params.port <;> rfl

/-! ### The operands and the instruction shapes -/

theorem ea (m : MemMode) : Accesses s (ea m t).2 := by
  cases m with
  | zp | zpx | zpy | abs | abx | aby => exact h
  | izx b => exact h.loadZpWord (b + t.x)
  | izy b => exact h.loadZpWord b

theorem fetchOperand (m : MemMode) : Accesses s (fetchOperand m t).2 := (h.ea m).load _

theorem storeFrom (m : MemMode) (reg : State → Byte) : Accesses s (storeFrom m reg t) := (h.ea m).store _ _

theorem modifyMem (m : MemMode) (f : Flags → Byte → Byte × Flags) : Accesses s (modifyMem m f t) :=
  ((h.fetchOperand m).store _ _).setP _

theorem operandOf {mode : Mode} {o : Byte × State} (ho : operandOf mode t = some o) : Accesses s o.2 := by
  cases mode with
  | mem m =>
    cases ho
    exact h.fetchOperand m
  | imm _ | acc =>
    cases ho
    exact h
  | imp | stk | rel _ | ind _ => cases ho

/-- An instruction that uses its operand without an access of its own. -/
theorem withOperand (mode : Mode) {f : Byte × State → State} (hf : ∀ o, (f o).bus = o.2.bus) :
    Accesses s (withOperand mode f t) := by
  unfold Machine.withOperand
  split
  case h_1 o ho => exact (h.operandOf ho).internal (hf o)
  case h_2 => exact h

theorem withMode (mode : Mode) {mem : MemMode → State → State} {acc : State → State}
    (hmem : ∀ m, Accesses s (mem m t)) (hacc : Accesses s (acc t)) : Accesses s (withMode mode mem acc t) := by
  cases mode with
  | mem m => exact hmem m
  | acc => exact hacc
  | imp | stk | imm _ | rel _ | ind _ => exact h

theorem shiftEffect (mode : Mode) (f : Flags → Byte → Byte × Flags) : Accesses s (shiftEffect mode f t) :=
  h.withMode mode (fun m => h.modifyMem m f) (h.internal rfl)

theorem branchEffect (mode : Mode) (cond : Bool) : Accesses s (branchEffect mode cond t) := by
  cases mode with
  | rel d => cases cond <;> exact h.internal rfl
  | imp | stk | acc | imm _ | mem _ | ind _ => exact h

theorem jumpIndirect (w : Word) : Accesses s (jumpIndirect w t) := (h.loadIndirect w).setPc _

theorem callSubroutine (w : Word) : Accesses s (callSubroutine w t) :=
  ((h.pushWord (t.pc - 1)).load (t.pc - 1)).setPc _

theorem returnFromSubroutine : Accesses s (returnFromSubroutine t) := h.pullWord.setPc _

theorem noteIChange (old : Bool) : Accesses s (t.noteIChange old) :=
  h.internal (State.bus_eq_iff.mpr (by simp))

theorem clearDOnBrk : Accesses s (clearDOnBrk t) :=
  h.internal (State.bus_eq_iff.mpr (by simp [clearDOnBrk_eq]))

theorem pullStatus : Accesses s (pullStatus t) :=
  (h.pull.setP (Flags.unpack t.pull.1)).noteIChange t.p.i

/-- Every instruction, mnemonic by mnemonic. -/
theorem effect (m : Mnemonic) (mode : Mode) : Accesses s (effect m mode t) := by
  have past : Accesses s (t.advance mode.length) := h.internal rfl
  cases m with
  | adc | sbc | and | eor | ora | cmp | cpx | cpy | bit | lda | ldx | ldy | nop =>
    exact past.withOperand mode fun _ => rfl
  | sta | stx | sty => exact past.withMode mode (fun m => past.storeFrom m _) past
  | asl | lsr | rol | ror => exact past.shiftEffect mode _
  | inc | dec => exact past.withMode mode (fun m => past.modifyMem m _) past
  | inx | iny | dex | dey | tax | tay | tsx | txa | tya | txs | clc | cld | clv | sec | sed => exact past.internal rfl
  | cli | sei => exact (past.setI _).noteIChange _
  | bcc | bcs | beq | bmi | bne | bpl | bvc | bvs => exact past.branchEffect mode _
  | jmp =>
    cases mode with
    | ind w => exact past.jumpIndirect w
    | mem m =>
      cases m with
      | abs w => exact past.internal rfl
      | zp _ | zpx _ | zpy _ | abx _ | aby _ | izx _ | izy _ => exact past
    | imp | stk | acc | imm _ | rel _ => exact past
  | jsr =>
    cases mode with
    | mem m =>
      cases m with
      | abs w => exact past.callSubroutine w
      | zp _ | zpx _ | zpy _ | abx _ | aby _ | izx _ | izy _ => exact past
    | imp | stk | acc | imm _ | rel _ | ind _ => exact past
  | rts => exact past.returnFromSubroutine
  | rti => exact past.leave
  | brk => exact (h.enter (t.pc + 2) true irqVector).clearDOnBrk
  | pha | php => exact past.push _
  | pla => exact past.pull.internal rfl
  | plp => exact past.pullStatus

/-! ### A whole step is such a series -/

theorem sampleLines : Accesses s t.sampleLines := h.internal (State.bus_eq_iff.mpr (by simp))

theorem loadIf (c : Prop) [Decidable c] (addr : Word) :
    Accesses s (if c then t.load addr else (t.peek addr, t)).2 := by
  split
  · exact h.load addr
  · exact h

theorem fetch : Accesses s (fetch t).state := ((h.load t.pc).loadIf _ (t.pc + 1)).loadIf _ (t.pc + 2)

theorem runInstruction {u : State} (hu : runInstruction t = .next u) : Accesses s u := by
  unfold Machine.runInstruction at hu
  split at hu
  case h_1 i _ =>
    rw [exec_eq_effect] at hu
    cases hu
    exact h.fetch.effect i.mnemonic i.mode
  case h_2 => cases hu

theorem boundary : Accesses s t.boundary.2 := by
  have checked : Accesses s (t.sampleLines.setInhibit false) := h.sampleLines.setInhibit false
  rcases t.boundary_cases with hb | hb | hb | hb | hb <;> rw [hb]
  · exact h.sampleLines
  · exact checked.resetSequence
  · exact (checked.setNmiPending false).enter t.pc false nmiVector
  · exact checked.enter t.pc false irqVector
  · exact checked

theorem step {u : State} (hu : step t = .next u) : Accesses s u := by
  have hb := h.boundary
  unfold Machine.step at hu
  split at hu <;> rename_i heq <;> rw [heq] at hb
  case h_1 => exact hb.runInstruction hu
  all_goals
    cases hu
    exact hb

end Accesses

/-! ### What every access keeps -/

/-- No access changes the parameters (10_state.md R45). -/
theorem Accesses.params_eq {s t : State} (h : Accesses s t) : t.params = s.params := by
  induction h with
  | start => rfl
  | load _ addr ih => simpa using ih
  | store _ addr v ih => simpa using ih
  | internal _ same ih =>
    obtain ⟨_, _, _, _, hparams⟩ := State.bus_eq_iff.mp same
    rw [hparams, ih]

/-- Every access keeps memory's canonical form. -/
theorem Accesses.memInv {s t : State} (h : Accesses s t) (hs : MemInv s) : MemInv t := by
  unfold MemInv at hs ⊢
  induction h with
  | start => exact hs
  | load _ addr ih => simpa using ih
  | store _ addr v ih => exact State.store_wf addr v ih
  | internal _ same ih =>
    obtain ⟨hmem, _⟩ := State.bus_eq_iff.mp same
    rw [hmem]
    exact ih

/-- The accesses `made` stand in front of the record of `s`, and only bytes of RAM that one of them wrote differ
(20_memory.md R57). -/
structure WritesOnly (made : List Access) (s t : State) : Prop where
  trace : t.trace = made ++ s.trace
  changed : ∀ b : Word, t.peek b ≠ s.peek b → IsRam s b ∧ ∃ v, Access.write b v ∈ made

/-- A write that changes a byte is a write to that address, and the address is RAM. -/
theorem State.of_store_peek_ne {s : State} {addr b : Word} {v : Byte} (h : (s.store addr v).peek b ≠ s.peek b) :
    b = addr ∧ IsRam s b := by
  have hb : b = addr := by
    by_contra hne
    exact h (s.store_peek_other v hne)
  subst hb
  refine ⟨rfl, ?_⟩
  obtain ⟨mem, _, _, hs, hmem | ⟨hram, _⟩, _⟩ := s.store_spec b v
  · exact absurd (by rw [hs, hmem]; rfl) h
  · exact hram

theorem WritesOnly.load {made : List Access} {s t : State} (h : WritesOnly made s t) (addr : Word) :
    WritesOnly (.read addr (t.load addr).1 :: made) s (t.load addr).2 where
  trace := by simp [h.trace]
  changed b hb := by
    obtain ⟨hram, v, hv⟩ := h.changed b (by simpa using hb)
    exact ⟨hram, v, List.mem_cons_of_mem _ hv⟩

theorem WritesOnly.store {made : List Access} {s t : State} (h : WritesOnly made s t) (hparams : t.params = s.params)
    (addr : Word) (v : Byte) : WritesOnly (.write addr v :: made) s (t.store addr v) where
  trace := by simp [h.trace]
  changed b hb := by
    by_cases ht : t.peek b = s.peek b
    · obtain ⟨rfl, hram⟩ := State.of_store_peek_ne (ht ▸ hb)
      exact ⟨by simpa [IsRam, hparams] using hram, v, by simp⟩
    · obtain ⟨hram, u, hu⟩ := h.changed b ht
      exact ⟨hram, u, List.mem_cons_of_mem _ hu⟩

theorem Accesses.writesOnly {s t : State} (h : Accesses s t) : ∃ made, WritesOnly made s t := by
  induction h with
  | start => exact ⟨[], rfl, fun b hb => absurd rfl hb⟩
  | load _ addr ih =>
    obtain ⟨made, hmade⟩ := ih
    exact ⟨_, hmade.load addr⟩
  | store ht addr v ih =>
    obtain ⟨made, hmade⟩ := ih
    exact ⟨_, hmade.store ht.params_eq addr v⟩
  | internal _ same ih =>
    obtain ⟨made, htrace, hchanged⟩ := ih
    obtain ⟨hmem, _, _, hrecord, _⟩ := State.bus_eq_iff.mp same
    exact ⟨made, hrecord.trans htrace, by simpa [State.peek, hmem] using hchanged⟩

/-- A machine without the port and without regions is RAM everywhere (20_memory.md R54, 92_eei_decisions.md D5). -/
theorem isRam_of_plain {s : State} (hport : s.params.port = .plainRam) (hplat : s.params.platform = [])
    (addr : Word) : IsRam s addr := by simp [IsRam, targetOf, regionKind, hport, hplat]

/-- Where all is RAM no access asks the environment. -/
theorem Accesses.asks_nothing {s t : State} (h : Accesses s t) (hram : ∀ addr, IsRam s addr) :
    t.answers = s.answers ∧ t.draws = s.draws := by
  induction h with
  | start => exact ⟨rfl, rfl⟩
  | @load t ht addr ih =>
    have hplain : IsRam t addr := by simpa [IsRam, ht.params_eq] using hram addr
    simpa [State.load_plain (.inl hplain)] using ih
  | store _ addr v ih => simpa using ih
  | internal _ same ih =>
    obtain ⟨_, hanswers, hdraws, _⟩ := State.bus_eq_iff.mp same
    rwa [hanswers, hdraws]

/-! ### What a read gives -/

theorem State.draw_fst (s : State) : s.draw.1 = s.answers.headD (Config.freeByte s.draws) := by
  unfold State.draw
  split <;> simp [*]

theorem State.load_environment {s : State} {addr : Word}
    (h : targetOf s.params addr = .region .device ∨ targetOf s.params addr = .region .unmapped) :
    (s.load addr).1 = s.draw.1 := by
  rcases h with h | h <;> simp [State.load, State.answer, h]

theorem State.load_ddr {s : State} {addr : Word} (h : targetOf s.params addr = .ddr) :
    (s.load addr).1 = ddrRead s.portDdr s.draw.1 := by simp [State.load, State.answer, h]

theorem State.load_data {s : State} {addr : Word} (h : targetOf s.params addr = .data) :
    (s.load addr).1 = dataRead s.portDdr s.portLatch s.draw.1 := by simp [State.load, State.answer, h]

/-- Bits 7 and 6 of a port register are the environment's (10_state.md R38). -/
theorem environmentBits_getLsbD (env : Byte) {k : Nat} (hk : k < 8) (hk6 : ¬ k < 6) :
    (env.extractLsb' 6 2).getLsbD (k - 6) = env.getLsbD k := by
  have hindex : 6 + (k - 6) = k := by omega
  have hrange : k - 6 < 2 := by omega
  simp [hindex, hrange]

/-- A read of the direction register, bit by bit (10_state.md R38). -/
theorem ddrRead_getLsbD (ddr : BitVec 6) (env : Byte) {k : Nat} (hk : k < 8) :
    (ddrRead ddr env).getLsbD k = if k < 6 then ddr.getLsbD k else env.getLsbD k := by
  rw [ddrRead, BitVec.getLsbD_append]
  by_cases hk6 : k < 6
  · simp [hk6]
  · simp [hk6, environmentBits_getLsbD env hk hk6]

/-- A read of the data register, bit by bit (10_state.md R38). -/
theorem dataRead_getLsbD (ddr latch : BitVec 6) (env : Byte) {k : Nat} (hk : k < 8) :
    (dataRead ddr latch env).getLsbD k =
      if k < 6 ∧ ddr.getLsbD k = true then latch.getLsbD k else env.getLsbD k := by
  rw [dataRead, BitVec.getLsbD_append]
  by_cases hk6 : k < 6
  · simp only [hk6, BitVec.getLsbD_or, BitVec.getLsbD_and, BitVec.getLsbD_not, BitVec.getLsbD_setWidth]
    cases ddr.getLsbD k <;> simp
  · simp [hk6, environmentBits_getLsbD env hk hk6]

/-- A write asks the environment nothing: the byte it gives next is the same. -/
theorem State.store_draw_fst (s : State) (addr : Word) (v : Byte) : (s.store addr v).draw.1 = s.draw.1 := by
  simp [State.draw_fst]

theorem State.store_ddr {s : State} {addr : Word} (v : Byte) (h : targetOf s.params addr = .ddr) :
    (s.store addr v).portDdr = v.setWidth 6 := by simp [State.store, State.accept, h]

theorem State.store_data {s : State} {addr : Word} (v : Byte) (h : targetOf s.params addr = .data) :
    (s.store addr v).portDdr = s.portDdr ∧ (s.store addr v).portLatch = v.setWidth 6 := by
  simp [State.store, State.accept, h]

end Sys2Proof.Machine
end

section
/-! The statements of 20_memory.md. -/

namespace Sys2Proof.Proofs

open Sys2Proof Sys2Proof.Machine

/-- Settles O54: a step is a series of accesses, and each keeps the form. -/
theorem stepKeepsMemoryForm : Obligations.StepKeepsMemoryForm := by
  intro s t hs hstep
  exact (Accesses.start.step hstep).memInv hs

/-- Settles O59: a step is a series of accesses, and each changes a byte of memory only by a recorded write to RAM. -/
theorem changedBytesWereWritten : Obligations.ChangedBytesWereWritten := by
  intro s t hstep
  obtain ⟨made, htrace, hchanged⟩ := (Accesses.start.step hstep).writesOnly
  exact ⟨made, htrace, hchanged⟩

/-- Settles O60: a step is a series of accesses, and RAM answers each read itself. -/
theorem plainMachineAsksNothing : Obligations.PlainMachineAsksNothing := by
  intro s t hport hplat hstep
  exact (Accesses.start.step hstep).asks_nothing (isRam_of_plain hport hplat)

/-- Settles O53, from what a read gives and what a write leaves, target by target. -/
theorem readAfterWrite : Obligations.ReadAfterWrite := by
  rintro s w v e rfl
  rw [← s.draw_fst, ← s.store_draw_fst w v]
  have target := congrArg (targetOf · w) (s.store_params w v)
  refine ⟨fun h => ?ram, fun h => ?rom, fun h => ?environment, fun h k hk => ?ddr, fun h k hk => ?data⟩
  case ram => rw [State.load_plain (.inl (target.trans h)), State.store_peek_ram v h]
  case rom =>
    rw [State.load_plain (.inr (target.trans h))]
    by_contra hne
    obtain ⟨_, hram⟩ := State.of_store_peek_ne hne
    simp [IsRam, h] at hram
  case environment => exact State.load_environment (by simpa using h)
  case ddr =>
    rw [State.load_ddr (target.trans h), State.store_ddr v h, ddrRead_getLsbD _ _ hk]
    split <;> simp [*]
  case data =>
    obtain ⟨hddr, hlatch⟩ := State.store_data v h
    rw [State.load_data (target.trans h), hddr, hlatch, dataRead_getLsbD _ _ _ hk]
    split <;> simp [*]

end Sys2Proof.Proofs
end

section
/-! The decoder said once: the map of opcodes describes every instruction it selects (`shapeOf_fits`), and bytes decode
exactly as an opcode and the operand bytes of its shape (`decode_eq_ok_iff`). -/

namespace Sys2Proof

/-! ### Displacements -/

/-- A byte read as a displacement is in range (30_encoding.md R83 d). -/
@[simp] theorem dispOk_toInt (b : Byte) : dispOk b.toInt = true := by
  have hlo := BitVec.le_toInt b
  have hhi := BitVec.toInt_lt (x := b)
  simp only [dispOk, Bool.and_eq_true, decide_eq_true_eq]
  omega

/-- A displacement in range is what its byte reads as. -/
theorem toInt_ofInt_of_dispOk {d : Int} (h : dispOk d = true) : (BitVec.ofInt 8 d).toInt = d := by
  simp only [dispOk, Bool.and_eq_true, decide_eq_true_eq] at h
  rw [BitVec.toInt_ofInt, Int.bmod_eq_of_le] <;> omega

/-! ### What the opcode map says of an instruction -/

/-- `i` is an instruction of the table's row with opcode `op` and mnemonic `m` and has these operand bytes; `ok` says
whether it is well-formed. -/
structure Instr.IsRow (op : Byte) (m : Mnemonic) (operands : List Byte) (ok : Bool) (i : Instr) : Prop where
  encode_eq : encode i = op :: operands
  mnemonic_eq : i.mnemonic = m
  wf_eq : i.wf = ok

/-- Every instruction of the shape belongs to the row of `op` and `m`, its operand in the order of R83. -/
def Shape.Fits (op : Byte) (m : Mnemonic) : Shape → Prop
  | .bare i => i.IsRow op m [] true
  | .byte f => ∀ b, (f b).IsRow op m [b] true
  | .disp f => ∀ d, (f d).IsRow op m [BitVec.ofInt 8 d] (dispOk d)
  | .word f => ∀ w, (f w).IsRow op m [loByte w, hiByte w] true

/-- The operand bytes of a shape, of the two that may follow the opcode (R81). -/
def Shape.operands (sh : Shape) (b1 b2 : Byte) : List Byte := [b1, b2].take sh.operandBytes

theorem Shape.operandBytes_le_two (sh : Shape) : sh.operandBytes ≤ 2 := by
  cases sh <;> simp [Shape.operandBytes]

@[simp] theorem Shape.length_operands (sh : Shape) (b1 b2 : Byte) :
    (sh.operands b1 b2).length = sh.operandBytes := by
  simp [Shape.operands, sh.operandBytes_le_two]

/-- What is built from operand bytes encodes as these bytes (R83). -/
theorem Shape.Fits.isRow_build {op : Byte} {m : Mnemonic} {sh : Shape} (h : sh.Fits op m) (b1 b2 : Byte) :
    (sh.build b1 b2).IsRow op m (sh.operands b1 b2) true := by
  cases sh with
  | bare i => exact h
  | byte f => exact h b1
  | disp f =>
    have hb := h b1.toInt
    rwa [dispOk_toInt, BitVec.ofInt_toInt] at hb
  | word f =>
    have hb := h (wordOf b1 b2)
    rwa [loByte_wordOf, hiByte_wordOf] at hb

/-- The 179 entries of the opcode map (R100), each by evaluation. -/
theorem opcodeRow_fits (n : Nat) : ∀ e ∈ opcodeRow n, ∃ m, e.2.Fits e.1 m := by
  unfold opcodeRow
  split <;>
    simp only [List.forall_mem_cons, List.not_mem_nil, false_imp_iff, implies_true, and_true, Shape.Fits]
  all_goals and_intros <;> exact ⟨_, by intros; exact ⟨rfl, rfl, rfl⟩⟩

theorem mem_of_lookupOpcode {row : List (Byte × Shape)} {op : Byte} {sh : Shape}
    (h : lookupOpcode row op = some sh) : (op, sh) ∈ row := by
  induction row with
  | nil => cases h
  | cons e rest ih =>
    simp only [lookupOpcode] at h
    split at h
    · cases h
      simp [*]
    · exact List.mem_cons_of_mem _ (ih h)

theorem shapeOf_fits {op : Byte} {sh : Shape} (h : shapeOf op = some sh) : ∃ m, sh.Fits op m :=
  opcodeRow_fits _ _ (mem_of_lookupOpcode h)

/-- The shape makes the instruction, from some operand. -/
inductive Shape.Makes : Shape → Instr → Prop
  | bare (i : Instr) : Makes (.bare i) i
  | byte (f : Byte → Instr) (b : Byte) : Makes (.byte f) (f b)
  | disp (f : Int → Instr) (d : Int) : Makes (.disp f) (f d)
  | word (f : Word → Instr) (w : Word) : Makes (.word f) (f w)

/-- The opcode map knows each of the 179 instructions under its opcode. -/
theorem exists_shape_makes (i : Instr) : ∃ sh, shapeOf i.opcode = some sh ∧ sh.Makes i := by
  cases i <;> dsimp only [Instr.opcode] <;> exact ⟨_, rfl, by constructor⟩

/-- An operand of a well-formed instruction is put together from its bytes (R83). -/
theorem Shape.Makes.exists_build {sh : Shape} {op : Byte} {m : Mnemonic} {i : Instr} (h : sh.Makes i)
    (hfits : sh.Fits op m) (hwf : i.wf = true) : ∃ b1 b2, sh.build b1 b2 = i := by
  cases h with
  | bare i => exact ⟨0, 0, rfl⟩
  | byte f b => exact ⟨b, 0, rfl⟩
  | disp f d =>
    have hok : dispOk d = true := (hfits d).wf_eq.symm.trans hwf
    exact ⟨BitVec.ofInt 8 d, 0, congrArg f (toInt_ofInt_of_dispOk hok)⟩
  | word f w => exact ⟨loByte w, hiByte w, congrArg f (wordOf_lo_hi w)⟩

/-! ### Decoding -/

/-- Bytes decode exactly as an opcode, the operand bytes of its shape, and what is left (R80, R81). -/
theorem decode_eq_ok_iff {bytes rest : List Byte} {i : Instr} :
    decode bytes = .ok (i, rest) ↔
      ∃ op sh b1 b2, shapeOf op = some sh ∧ bytes = op :: (sh.operands b1 b2 ++ rest) ∧ i = sh.build b1 b2 := by
  constructor
  · intro h
    cases bytes with
    | nil => cases h
    | cons op bs =>
      simp only [decode] at h
      split at h
      case h_1 => cases h
      case h_2 sh hsh =>
        split at h <;> cases h
        case h_1 hcount => exact ⟨op, sh, 0, 0, hsh, by simp [Shape.operands, hcount], rfl⟩
        case h_2 b1 hcount => exact ⟨op, sh, b1, 0, hsh, by simp [Shape.operands, hcount], rfl⟩
        case h_3 b1 b2 hcount => exact ⟨op, sh, b1, b2, hsh, by simp [Shape.operands, hcount], rfl⟩
  · rintro ⟨op, sh, b1, b2, hsh, rfl, rfl⟩
    cases sh <;> simp [decode, hsh, Shape.operands, Shape.operandBytes, Shape.build]

/-- Bytes are refused by their opcode exactly where the map does not list it (R107). -/
theorem decode_eq_unlistedOpcode_iff {op : Byte} {rest : List Byte} :
    decode (op :: rest) = .error (.unlistedOpcode op) ↔ shapeOf op = none := by
  simp only [decode]
  split
  case h_1 h => simp [h]
  case h_2 sh h => split <;> simp [h]

/-- An encoding has as many bytes as the row says (R99). -/
@[simp] theorem length_encode (i : Instr) : (encode i).length = i.length := by
  suffices h : ∀ mode : Mode, mode.operandBytes.length + 1 = mode.length from h i.mode
  intro mode
  cases mode with
  | mem m => cases m <;> rfl
  | imp | stk | acc | imm _ | rel _ | ind _ => rfl

theorem Instr.IsRow.length_eq {op : Byte} {m : Mnemonic} {operands : List Byte} {ok : Bool} {i : Instr}
    (h : i.IsRow op m operands ok) : i.length = operands.length + 1 := by
  rw [← length_encode, h.encode_eq, List.length_cons]

theorem Instr.IsRow.opcode_eq {op : Byte} {m : Mnemonic} {operands : List Byte} {ok : Bool} {i : Instr}
    (h : i.IsRow op m operands ok) : i.opcode = op := (List.cons.inj h.encode_eq).1

/-- JSR has the one opcode $20 (46_jump_subroutine.md R192). -/
theorem opcode_eq_jsr_iff (i : Instr) : i.opcode = 0x20 ↔ i.mnemonic = .jsr := by
  obtain ⟨sh, hsh, hmakes⟩ := exists_shape_makes i
  constructor
  · intro h
    rw [h] at hsh
    cases hsh
    cases hmakes
    rfl
  · intro h
    cases i
    case jsr => rfl
    all_goals cases h

/-- An operand byte the shape does not have is not looked at (R80). -/
theorem Shape.build_eq_of_operands {sh : Shape} {b1 b2 c1 c2 : Byte} {rest : List Byte}
    (h : [b1, b2] = sh.operands c1 c2 ++ rest) : sh.build c1 c2 = sh.build b1 b2 := by
  cases sh with
  | bare i => rfl
  | byte f | disp f =>
    obtain ⟨rfl, _⟩ := List.cons.inj h
    rfl
  | word f =>
    obtain ⟨rfl, htail⟩ := List.cons.inj h
    obtain ⟨rfl, _⟩ := List.cons.inj htail
    rfl

/-- Three bytes that decode stand for the instruction their first one's shape builds from the other two. -/
theorem exists_shape_of_decode {op b1 b2 : Byte} {rest : List Byte} {i : Instr}
    (h : decode [op, b1, b2] = .ok (i, rest)) :
    ∃ sh m, shapeOf op = some sh ∧ sh.build b1 b2 = i ∧ i.IsRow op m (sh.operands b1 b2) true := by
  obtain ⟨_, sh, c1, c2, hsh, hbytes, rfl⟩ := decode_eq_ok_iff.mp h
  obtain ⟨rfl, hoperands⟩ := List.cons.inj hbytes
  obtain ⟨m, hfits⟩ := shapeOf_fits hsh
  rw [Shape.build_eq_of_operands hoperands]
  exact ⟨sh, m, hsh, rfl, hfits.isRow_build b1 b2⟩

end Sys2Proof
end

section
/-! What a fetch reads and leaves alone, and what a step makes of it; reads of RAM and ROM, and the addresses of
operands as numbers. -/

namespace Sys2Proof.Machine

open Sys2Proof

/-! ### Reads of memory that answers -/

/-- The state with the accesses `made`, newest first, added to its record (20_memory.md R57). -/
def State.recorded (s : State) (made : List Access) : State := { s with trace := made ++ s.trace }

/-- Reads of RAM and ROM differ from `s` in the record alone. -/
theorem State.load_recorded {s : State} {addr : Word} (h : Readable s addr) (made : List Access) :
    (s.recorded made).load addr = (s.peek addr, s.recorded (.read addr (s.peek addr) :: made)) :=
  State.load_plain h

theorem State.load_readable {s : State} {addr : Word} (h : Readable s addr) :
    s.load addr = (s.peek addr, s.recorded [.read addr (s.peek addr)]) := State.load_plain h

/-! ### Effective addresses -/

theorem zext16_eq_ofNat (b : Byte) : zext16 b = BitVec.ofNat 16 b.toNat := by simp [zext16]

/-- A 16-bit sum with an index wraps modulo 65,536 (30_encoding.md R91, R92). -/
theorem add_zext16_eq_ofNat (w : Word) (b : Byte) :
    w + zext16 b = BitVec.ofNat 16 ((w.toNat + b.toNat) % 65536) := by
  apply BitVec.eq_of_toNat_eq
  simp [zext16_toNat]

/-- An address in page zero is its low byte. -/
theorem eq_zext16 {p : Word} {b : Byte} (h : p.toNat = b.toNat) : p = zext16 b :=
  BitVec.eq_of_toNat_eq (h.trans (zext16_toNat b).symm)

/-- A pointer in page zero, low byte first (20_memory.md R55), where both its bytes are in memory that answers. -/
theorem State.loadZpWord_readable {s : State} {z : Byte} {p q : Word} (hp : p.toNat = z.toNat)
    (hq : q.toNat = (z.toNat + 1) % 256) (hpr : Readable s p) (hqr : Readable s q) :
    s.loadZpWord z =
      (wordOf (s.peek p) (s.peek q), s.recorded [.read q (s.peek q), .read p (s.peek p)]) := by
  obtain rfl : p = zext16 z := eq_zext16 hp
  obtain rfl : q = zext16 (z + 1) := eq_zext16 (hq.trans (by simp))
  simp only [State.loadZpWord, State.load_readable hpr, State.load_recorded hqr]

/-! ### How many bytes a fetch reads -/

theorem fetchReads_of_shape {op : Byte} {sh : Shape} (h : shapeOf op = some sh) :
    fetchReads op = if op = 0x20 then 1 else sh.operandBytes := by
  simp [fetchReads, h]

theorem fetchReads_le_two (op : Byte) : fetchReads op ≤ 2 := by
  cases h : shapeOf op with
  | none => simp [fetchReads, h]
  | some sh =>
    have hle := sh.operandBytes_le_two
    rw [fetchReads_of_shape h]
    split <;> omega

/-- A fetch reads the instruction's bytes, but for the third one of JSR (R82). -/
theorem fetchReads_of_isRow {op : Byte} {sh : Shape} {m : Mnemonic} {b1 b2 : Byte} {i : Instr}
    (hsh : shapeOf op = some sh) (row : i.IsRow op m (sh.operands b1 b2) true) :
    (2 ≤ fetchReads op ↔ i.length = 3 ∧ i.mnemonic ≠ .jsr) ∧ (1 ≤ fetchReads op ↔ 2 ≤ i.length) := by
  have hlength : i.length = sh.operandBytes + 1 := by simp [row.length_eq]
  have hle := sh.operandBytes_le_two
  rw [fetchReads_of_shape hsh, ne_eq, ← opcode_eq_jsr_iff, row.opcode_eq]
  by_cases hop : op = 0x20
  · subst hop
    cases hsh
    simp [hlength, Shape.operandBytes]
  · simp only [hop, if_false, not_false_eq_true, and_true]
    omega

/-- The operand reads of a fetch at `pc`, newest first. -/
def operandReads (pc : Word) (op b1 b2 : Byte) : List Access :=
  (if 2 ≤ fetchReads op then [.read (pc + 2) b2] else []) ++ if 1 ≤ fetchReads op then [.read (pc + 1) b1] else []

/-! ### The fetch -/

/-- A byte that is read where `c` holds, and looked at without an access where it does not. -/
def State.loadIf (c : Prop) [Decidable c] (s : State) (addr : Word) : Byte × State :=
  if c then s.load addr else (s.peek addr, s)

section

variable (c : Prop) [Decidable c] (s : State) (addr : Word)

theorem State.loadIf_busOnly : BusOnly s (s.loadIf c addr).2 := by
  unfold State.loadIf
  split
  · exact busOnly_iff.mpr (by simp)
  · exact .refl s

theorem State.loadIf_trace :
    (s.loadIf c addr).2.trace = (if c then [.read addr (s.loadIf c addr).1] else []) ++ s.trace := by
  unfold State.loadIf
  split <;> simp

@[simp] theorem State.loadIf_mem : (s.loadIf c addr).2.mem = s.mem := by
  unfold State.loadIf
  split <;> simp

@[simp] theorem State.loadIf_portDdr : (s.loadIf c addr).2.portDdr = s.portDdr := by
  unfold State.loadIf
  split <;> simp

@[simp] theorem State.loadIf_portLatch : (s.loadIf c addr).2.portLatch = s.portLatch := by
  unfold State.loadIf
  split <;> simp

end

/-- RAM and ROM give the same byte whether read or looked at. -/
theorem State.loadIf_recorded {s : State} {addr : Word} (h : Readable s addr) (c : Prop) [Decidable c]
    (made : List Access) : (s.recorded made).loadIf c addr =
      (s.peek addr, s.recorded ((if c then [.read addr (s.peek addr)] else []) ++ made)) := by
  unfold State.loadIf
  split
  · exact State.load_recorded h made
  · rfl

/-- A fetch reads the opcode and then the operand bytes the opcode asks for, in rising order (R82). -/
theorem fetch_eq (s : State) : fetch s =
    let op := s.load s.pc
    let b1 := op.2.loadIf (1 ≤ fetchReads op.1) (s.pc + 1)
    let b2 := b1.2.loadIf (2 ≤ fetchReads op.1) (s.pc + 2)
    { op := op.1, b1 := b1.1, b2 := b2.1, state := b2.2 } := rfl

theorem fetch_op (s : State) : (fetch s).op = (s.load s.pc).1 := rfl

theorem fetch_trace (s : State) : (fetch s).state.trace =
    operandReads s.pc (fetch s).op (fetch s).b1 (fetch s).b2 ++ .read s.pc (fetch s).op :: s.trace := by
  rw [operandReads, List.append_assoc]
  exact (State.loadIf_trace ..).trans (congrArg _ ((State.loadIf_trace ..).trans (congrArg _ (State.load_trace ..))))

theorem BusOnly.trans {s t u : State} (h : BusOnly s t) (h' : BusOnly t u) : BusOnly s u := by
  obtain ⟨b, rfl⟩ := h
  obtain ⟨b', rfl⟩ := h'
  exact ⟨b', rfl⟩

theorem fetch_busOnly (s : State) : BusOnly s (fetch s).state := by
  have hop : BusOnly s (s.load s.pc).2 := busOnly_iff.mpr (by simp)
  exact (hop.trans (State.loadIf_busOnly ..)).trans (State.loadIf_busOnly ..)

/-- A fetch from RAM or ROM gives the bytes there and records the reads it needs. -/
theorem fetch_readable {s : State} (h0 : Readable s s.pc) (h1 : Readable s (s.pc + 1))
    (h2 : Readable s (s.pc + 2)) : fetch s =
      let op := s.peek s.pc
      let b1 := s.peek (s.pc + 1)
      let b2 := s.peek (s.pc + 2)
      { op, b1, b2, state := s.recorded (operandReads s.pc op b1 b2 ++ [.read s.pc op]) } := by
  simp only [fetch_eq, State.load_readable h0, State.loadIf_recorded h1, State.loadIf_recorded h2, operandReads,
    List.append_assoc]

theorem decodeFetched_fetch {s : State} {sh : Shape} (h : shapeOf (s.load s.pc).1 = some sh) :
    decodeFetched (fetch s) = some (sh.build (fetch s).b1 (fetch s).b2) := by
  simp [decodeFetched, decodeBytes, fetch_op, h]

/-! ### The step around the fetch -/

theorem runInstruction_of_unlisted {s : State} (h : shapeOf (s.load s.pc).1 = none) :
    runInstruction s = .refused (.unlistedOpcode (s.load s.pc).1 s.pc) := by
  simp [runInstruction, decodeFetched, decodeBytes, fetch_op, h]

theorem runInstruction_of_listed {s : State} {sh : Shape} (h : shapeOf (s.load s.pc).1 = some sh) :
    runInstruction s = exec (sh.build (fetch s).b1 (fetch s).b2) (fetch s).state := by
  simp [runInstruction, decodeFetched_fetch h]

/-- Where the boundary goes on to an instruction it has sampled the lines and cleared the I latency bit. -/
theorem State.boundary_of_execute {s : State} (h : s.boundary.1 = .execute) :
    s.boundary = (.execute, s.sampleLines.setInhibit false) := by
  rcases s.boundary_cases with hb | hb | hb | hb | hb
  case inr.inr.inr.inr => exact hb
  all_goals
    rw [hb] at h
    cases h

theorem step_of_execute {s : State} (h : s.boundary.1 = .execute) : step s = runInstruction s.boundary.2 := by
  simp [step, State.boundary_of_execute h]

/-- Anything else a boundary leads to is the whole step (30_encoding.md R98). -/
theorem step_of_not_execute {s : State} (h : s.boundary.1 ≠ .execute) : step s = .next s.boundary.2 := by
  unfold step
  split
  case h_1 hb => exact absurd (by rw [hb]) h
  all_goals simp [*]

/-- With no sample to come, RES not asserted, no NMI pending and no IRQ let in, the boundary goes on to an instruction
(60_exceptions.md R235). -/
theorem State.boundary_of_quiet {s : State} (hschedule : s.schedule = []) (hres : s.lines.res = false)
    (hnmi : s.nmiPending = false) (hirq : s.lines.irq = true → (s.p.i ^^ s.irqInhibitNext) = true) :
    s.boundary = (.execute, s.setInhibit false) := by
  have hsample : s.sampleLines = s := by simp [State.sampleLines, hschedule]
  have hmasked : (s.lines.irq && !(s.p.i ^^ s.irqInhibitNext)) = false := by
    cases h : s.lines.irq with
    | false => rfl
    | true => simp [hirq h]
  simp [State.boundary, State.event, hsample, hres, hnmi, hmasked]

end Sys2Proof.Machine
end

section
/-! The statements of 30_encoding.md. -/

namespace Sys2Proof.Proofs

open Sys2Proof Sys2Proof.Machine

/-- Settles O3: the map lists the instruction under its opcode, and its operand is put together from its own bytes. -/
theorem decodeOfEncode : Obligations.DecodeOfEncode := by
  intro i rest hwf
  obtain ⟨sh, hsh, hmakes⟩ := exists_shape_makes i
  obtain ⟨m, hfits⟩ := shapeOf_fits hsh
  obtain ⟨b1, b2, rfl⟩ := hmakes.exists_build hfits hwf
  have hbytes := (hfits.isRow_build b1 b2).encode_eq
  exact decode_eq_ok_iff.mpr ⟨_, sh, b1, b2, hsh, by rw [hbytes, List.cons_append], rfl⟩

/-- Settles O4: what the map builds from operand bytes is well-formed and encodes as these bytes. -/
theorem encodeOfDecode : Obligations.EncodeOfDecode := by
  intro bytes rest i h
  obtain ⟨op, sh, b1, b2, hsh, rfl, rfl⟩ := decode_eq_ok_iff.mp h
  obtain ⟨m, hfits⟩ := shapeOf_fits hsh
  obtain ⟨hbytes, _, hwf⟩ := hfits.isRow_build b1 b2
  exact ⟨hwf, by rw [hbytes, List.cons_append]⟩

/-- Settles O5: both instructions are built by the one shape of the opcode. -/
theorem opcodeAloneSelects : Obligations.OpcodeAloneSelects := by
  intro op bs bs' rest rest' i i' h h'
  obtain ⟨_, sh, b1, b2, hsh, hbytes, rfl⟩ := decode_eq_ok_iff.mp h
  obtain ⟨_, sh', b1', b2', hsh', hbytes', rfl⟩ := decode_eq_ok_iff.mp h'
  obtain ⟨rfl, rfl⟩ := List.cons.inj hbytes
  obtain ⟨rfl, rfl⟩ := List.cons.inj hbytes'
  obtain rfl : sh = sh' := Option.some.inj (hsh.symm.trans hsh')
  obtain ⟨m, hfits⟩ := shapeOf_fits hsh
  have row := hfits.isRow_build b1 b2
  have row' := hfits.isRow_build b1' b2'
  have hle := sh.operandBytes_le_two
  refine ⟨row.mnemonic_eq.trans row'.mnemonic_eq.symm, ?_, ?_, ?_, ?_⟩ <;>
    simp only [row.length_eq, row'.length_eq, Shape.length_operands, List.length_append] <;> omega

/-- Settles O2: an opcode is refused where the map does not list it. That the map lacks no other byte is looked up for
each of the 256, and that it lacks the 77 for each of them. -/
theorem unlistedOpcodesRefused : Obligations.UnlistedOpcodesRefused := by
  intro op rest
  rw [decode_eq_unlistedOpcode_iff]
  refine ⟨Iff.rfl, ?noOther, ?all77⟩
  case noOther =>
    revert op
    decide
  case all77 =>
    revert op
    refine List.forall_iff_forall_mem.mp ?_
    decide

/-- Settles O1, by running the decoder on the twenty byte strings. -/
theorem decodesSampleWords : Obligations.DecodesSampleWords := by
  unfold Obligations.DecodesSampleWords
  and_intros <;> rfl

/-- Settles O7: the refusal is the fetch's, every listed opcode completes, and nothing else stops a step. -/
theorem stepStopsOnlyOnUnlistedOpcode : Obligations.StepStopsOnlyOnUnlistedOpcode := by
  intro s
  have hpc (hexec : s.boundary.1 = .execute) : s.boundary.2.pc = s.pc := by simp [State.boundary_of_execute hexec]
  have hrefused : s.boundary.1 = .execute ∧ shapeOf (s.boundary.2.load s.pc).1 = none →
      step s = .refused (.unlistedOpcode (s.boundary.2.load s.pc).1 s.pc) := by
    rintro ⟨hexec, hop⟩
    rw [step_of_execute hexec]
    rw [← hpc hexec] at hop ⊢
    exact runInstruction_of_unlisted hop
  have hnext : ¬ (s.boundary.1 = .execute ∧ shapeOf (s.boundary.2.load s.pc).1 = none) →
      ∃ t, step s = .next t := by
    intro hother
    by_cases hexec : s.boundary.1 = .execute
    · obtain ⟨sh, hsh⟩ := Option.ne_none_iff_exists'.mp fun hop => hother ⟨hexec, hop⟩
      rw [← hpc hexec] at hsh
      exact ⟨_, by rw [step_of_execute hexec, runInstruction_of_listed hsh, exec_eq_effect]⟩
    · exact ⟨_, step_of_not_execute hexec⟩
  refine ⟨⟨hrefused, fun hstep => ?_⟩, hnext⟩
  by_contra hother
  obtain ⟨t, ht⟩ := hnext hother
  rw [ht] at hstep
  cases hstep

/-- Settles O9: the fetch is a read and two reads on condition, and each changes the record alone. -/
theorem fetchKeepsEverythingButTheRecord : Obligations.FetchKeepsEverythingButTheRecord := by
  intro s
  have hle := fetchReads_le_two (fetch s).op
  have htwo : fetchReads (fetch s).op = 2 ↔ 2 ≤ fetchReads (fetch s).op := by omega
  obtain ⟨ha, hx, hy, hsp, hpc, hp, hlines, hschedule, hnmi, hinhibit, hparams⟩ := busOnly_iff.mp (fetch_busOnly s)
  refine ⟨_, rfl, ?trace, hle, hpc, hp, ⟨ha, hx, hy, hsp⟩, ?memory, ?port,
    ⟨hlines, hschedule, hnmi, hinhibit, hparams⟩⟩
  case trace =>
    simp only [htwo]
    exact fetch_trace s
  case memory =>
    intro b
    simp [State.peek, fetch_eq]
  case port => constructor <;> simp [fetch_eq]

/-- Settles O6: the boundary goes on to an instruction, whose fetch finds the bytes that decode to `i`. -/
theorem stepRunsDecodedInstruction : Obligations.StepRunsDecodedInstruction := by
  intro s i rest hschedule hres hnmi hirq h0 h1 h2 hdecode
  obtain ⟨sh, m, hsh, rfl, row⟩ := exists_shape_of_decode hdecode
  refine ⟨row.wf_eq, ?_⟩
  have hboundary := State.boundary_of_quiet hschedule hres hnmi hirq
  have hload : (s.setInhibit false).load s.pc = _ := State.load_readable h0
  have hfetch : fetch (s.setInhibit false) = _ := fetch_readable h0 h1 h2
  rw [step_of_execute (by rw [hboundary]), hboundary, runInstruction_of_listed (by simpa [hload] using hsh), hfetch]
  obtain ⟨htwo, hone⟩ := fetchReads_of_isRow hsh row
  simp only [← htwo, ← hone]
  rw [List.append_cons _ (Access.read s.pc (s.peek s.pc)) s.trace]
  rfl

/-- Settles O18, mode by mode; a pointer of the two indirect modes is a word of page zero. -/
theorem effectiveAddresses : Obligations.EffectiveAddresses := by
  intro s b w
  refine ⟨?zp, ?zpx, ?zpy, rfl, ?abx, ?aby, ?izx, ?izy⟩
  case zp => simp only [ea, zext16_eq_ofNat]
  case zpx => simp [ea, zext16_eq_ofNat]
  case zpy => simp [ea, zext16_eq_ofNat]
  case abx => simp only [ea, add_zext16_eq_ofNat]
  case aby => simp only [ea, add_zext16_eq_ofNat]
  case izx =>
    intro p q hp hq hpr hqr
    have hword := State.loadZpWord_readable (z := b + s.x) (by simpa using hp) (by simpa using hq) hpr hqr
    exact ⟨by simp [ea, hword, wordOf_toNat], by simp [ea, hword, State.recorded]⟩
  case izy =>
    intro p q hp hq hpr hqr
    have hword := State.loadZpWord_readable hp hq hpr hqr
    exact ⟨by simp [ea, hword, wordOf_toNat, zext16_toNat], by simp [ea, hword, State.recorded]⟩

/-- Settles O19: the operand is read after the mode's own reads, and neither changes more than the record. -/
theorem operandIsReadOnce : Obligations.OperandIsReadOnce := by
  intro s b m
  refine ⟨rfl, rfl, _, rfl, fetchOperand_trace m s, ?byte, ?registers, by simp, by simp, ?memory, ?port, ?control⟩
  case byte =>
    intro h
    have hread : Readable (ea m s).2 (ea m s).1 := by simpa [Readable] using h
    simp [fetchOperand, State.load_readable hread]
  case registers => constructor <;> simp
  case memory => intro a; simp
  case port => constructor <;> simp
  case control => constructor <;> simp

end Sys2Proof.Proofs
end

section
/-! The instructions that take an operand to A and the flags, said once by what they compute and what they leave alone;
then each computation of 40_alu.md in numbers. -/

namespace Sys2Proof.Machine

open Sys2Proof

/-! ### Running an instruction on its operand -/

/-- Reading the operand leaves everything but the record alone. -/
theorem operandOf_frame {mode : Mode} {s : State} {o : Byte × State} (ho : operandOf mode s = some o) :
    SameRegisters s o.2 ∧ o.2.pc = s.pc ∧ o.2.p = s.p ∧ SameMemory s o.2 ∧ SamePort s o.2 ∧ SameControl s o.2 := by
  cases mode with
  | mem m =>
    obtain ⟨_, _, o', ho', _, _, hframe⟩ := Proofs.operandIsReadOnce s 0 m
    cases ho.symm.trans ho'
    exact hframe
  | imm _ | acc =>
    cases ho
    exact ⟨⟨rfl, rfl, rfl, rfl⟩, rfl, rfl, fun _ => rfl, ⟨rfl, rfl⟩, ⟨rfl, rfl, rfl, rfl, rfl⟩⟩
  | imp | stk | rel _ | ind _ => cases ho

/-- What an instruction `i` with the operand `o` leaves alone from `s` to `t`, where it writes at most A and the flags:
the other registers, memory, the port and the inputs; its accesses are the operand's, and PC moves past it. -/
def OperandFrame (i : Instr) (s : State) (o : Byte × State) (t : State) : Prop :=
  t.x = s.x ∧ t.y = s.y ∧ t.sp = s.sp ∧ t.pc = s.pc + BitVec.ofNat 16 i.length ∧ SameRecord o.2 t ∧
    SameMemory s t ∧ SamePort s t ∧ SameControl s t

section
variable {i : Instr} {s : State} {o : Byte × State}

theorem operandFrame_setA_setP (ho : operandOf i.mode (s.advance i.length) = some o) (a : Byte) (p : Flags) :
    OperandFrame i s o ((o.2.setA a).setP p) := by
  obtain ⟨⟨_, hx, hy, hsp⟩, hpc, _, hmem, ⟨hddr, hlatch⟩, ⟨hlines, hschedule, hnmi, hinhibit, hparams⟩⟩ :=
    operandOf_frame ho
  exact ⟨hx, hy, hsp, hpc, ⟨rfl, rfl, rfl⟩, hmem, ⟨hddr, hlatch⟩, ⟨hlines, hschedule, hnmi, hinhibit, hparams⟩⟩

theorem withOperand_of_operandOf {mode : Mode} (ho : operandOf mode s = some o) (f : Byte × State → State) :
    withOperand mode f s = f o := by simp [withOperand, ho]

/-- An instruction whose effect is `aluA f` writes what `f` gives of the flags, A and the operand. -/
theorem exec_of_aluA {f : Flags → Byte → Byte → Byte × Flags}
    (he : effect i.mnemonic i.mode s = withOperand i.mode (aluA f) (s.advance i.length))
    (ho : operandOf i.mode (s.advance i.length) = some o) :
    ∃ t, exec i s = .next t ∧ t.a = (f s.p s.a o.1).1 ∧ t.p = (f s.p s.a o.1).2 ∧ OperandFrame i s o t := by
  obtain ⟨⟨ha, _⟩, _, hp, _⟩ := operandOf_frame ho
  have hrun : f o.2.p o.2.a o.1 = f s.p s.a o.1 := by rw [ha, hp]; rfl
  refine ⟨aluA f o, ?_, congrArg Prod.fst hrun, congrArg Prod.snd hrun, operandFrame_setA_setP ho _ _⟩
  rw [exec_eq_effect, he, withOperand_of_operandOf ho]

/-- An instruction whose effect is `testFlags f reg` writes the flags `f` gives of a register and the operand. -/
theorem exec_of_testFlags {f : Flags → Byte → Byte → Flags} {reg : State → Byte}
    (he : effect i.mnemonic i.mode s = withOperand i.mode (testFlags f reg) (s.advance i.length))
    (hreg : ∀ u, SameRegisters s u → reg u = reg s)
    (ho : operandOf i.mode (s.advance i.length) = some o) :
    ∃ t, exec i s = .next t ∧ t.a = s.a ∧ t.p = f s.p (reg s) o.1 ∧ OperandFrame i s o t := by
  obtain ⟨hregs, _, hp, _⟩ := operandOf_frame ho
  refine ⟨testFlags f reg o, ?_, hregs.a, ?_, operandFrame_setA_setP ho o.2.a _⟩
  · rw [exec_eq_effect, he, withOperand_of_operandOf ho]
  · rw [← hreg o.2 ⟨hregs.a, hregs.x, hregs.y, hregs.sp⟩]
    exact congrArg (f · (reg o.2) o.1) hp

theorem exec_of_adc (hm : i.mnemonic = .adc) (ho : operandOf i.mode (s.advance i.length) = some o) :
    ∃ t, exec i s = .next t ∧ t.a = (adc s.p s.a o.1).1 ∧ t.p = (adc s.p s.a o.1).2 ∧ OperandFrame i s o t :=
  exec_of_aluA (by rw [hm]; rfl) ho

theorem exec_of_sbc (hm : i.mnemonic = .sbc) (ho : operandOf i.mode (s.advance i.length) = some o) :
    ∃ t, exec i s = .next t ∧ t.a = (sbc s.p s.a o.1).1 ∧ t.p = sbcFlags s.p s.a o.1 ∧ OperandFrame i s o t :=
  exec_of_aluA (by rw [hm]; rfl) ho

end

/-! ### N and Z -/

theorem msb_iff (v : Byte) : v.msb = true ↔ 128 ≤ v.toNat := by simp [BitVec.msb_eq_decide]

theorem Flags.setNZ_eq_nzOf (p : Flags) (v : Byte) : p.setNZ v = nzOf p v := by
  have hn : v.msb = v.getLsbD 7 := BitVec.msb_eq_getLsbD_last v
  have hz : (v == 0) = decide (v.toNat = 0) := by
    rw [Bool.eq_iff_iff, beq_iff_eq, decide_eq_true_iff, ← BitVec.toNat_inj]
    rfl
  rw [Flags.setNZ, nzOf, hn, hz]

theorem Flags.setNZ_n_iff (p : Flags) (v : Byte) : (p.setNZ v).n = true ↔ 128 ≤ v.toNat := msb_iff v

theorem Flags.setNZ_z_iff (p : Flags) (v : Byte) : (p.setNZ v).z = true ↔ v.toNat = 0 := by
  rw [p.setNZ_eq_nzOf]
  exact decide_eq_true_iff

/-! ### AND, ORA, EOR, BIT and the compares -/

/-- The operation of AND, ORA and EOR (40_alu.md R122, R127, R128). -/
def logicOf (m : Mnemonic) : Flags → Byte → Byte → Byte × Flags :=
  if m = .and then andOp else if m = .ora then oraOp else eorOp

/-- The register CMP, CPX and CPY compare (R124 to R126). -/
def comparedOf (m : Mnemonic) (s : State) : Byte := if m = .cmp then s.a else if m = .cpx then s.x else s.y

theorem effect_of_logic {m : Mnemonic} (hm : m ∈ [Mnemonic.and, .ora, .eor]) (mode : Mode) (s : State) :
    effect m mode s = withOperand mode (aluA (logicOf m)) (s.advance mode.length) := by
  fin_cases hm <;> rfl

theorem effect_of_compare {m : Mnemonic} (hm : m ∈ [Mnemonic.cmp, .cpx, .cpy]) (mode : Mode) (s : State) :
    effect m mode s = withOperand mode (testFlags compareFlags (comparedOf m)) (s.advance mode.length) := by
  fin_cases hm <;> rfl

theorem comparedOf_congr (m : Mnemonic) {s u : State} (h : SameRegisters s u) : comparedOf m u = comparedOf m s := by
  simp [comparedOf, h.a, h.x, h.y]

/-- The flags of a logic operation are N and Z of its result. -/
theorem logicOf_flags (m : Mnemonic) (p : Flags) (a b : Byte) :
    (logicOf m p a b).2 = nzOf p (logicOf m p a b).1 := by
  rw [← Flags.setNZ_eq_nzOf]
  unfold logicOf
  split_ifs <;> rfl

theorem logicOf_getLsbD (m : Mnemonic) (p : Flags) (a b : Byte) (k : Nat) :
    (logicOf m p a b).1.getLsbD k =
      if m = .and then a.getLsbD k && b.getLsbD k
      else if m = .ora then a.getLsbD k || b.getLsbD k
      else a.getLsbD k != b.getLsbD k := by
  unfold logicOf
  split_ifs
  · exact BitVec.getLsbD_and
  · exact BitVec.getLsbD_or
  · exact BitVec.getLsbD_xor

/-- BIT sets Z where A and the operand have no bit in common (R123). -/
theorem bitFlags_z_iff (p : Flags) (a m : Byte) :
    (bitFlags p a m).z = true ↔ ∀ k, k < 8 → ¬ (a.getLsbD k = true ∧ m.getLsbD k = true) := by
  calc (bitFlags p a m).z = true
    _ ↔ a &&& m = 0 := beq_iff_eq
    _ ↔ ∀ k, k < 8 → (a &&& m).getLsbD k = (0 : Byte).getLsbD k :=
      ⟨fun h k _ => by rw [h], fun h => BitVec.eq_of_getLsbD_eq h⟩
    _ ↔ ∀ k, k < 8 → ¬ (a.getLsbD k = true ∧ m.getLsbD k = true) := by simp

theorem compareFlags_c_iff (p : Flags) (r m : Byte) : (compareFlags p r m).c = true ↔ m.toNat ≤ r.toNat :=
  decide_eq_true_iff

theorem compareFlags_z_iff (p : Flags) (r m : Byte) : (compareFlags p r m).z = true ↔ r = m := by
  rw [compareFlags, Flags.setNZ_z_iff, ← BitVec.toNat_inj, BitVec.toNat_sub]
  omega

theorem compareFlags_n_iff (p : Flags) (r m : Byte) :
    (compareFlags p r m).n = true ↔ 128 ≤ (r.toNat + 256 - m.toNat) % 256 := by
  rw [compareFlags, Flags.setNZ_n_iff, BitVec.toNat_sub]
  omega

/-! ### Binary sums and differences -/

section
variable (p : Flags) (a m : Byte)

theorem adcBinary_toNat : (adcBinary p a m).1.toNat = (a.toNat + m.toNat + p.c.toNat) % 256 := by
  simp [adcBinary]

theorem adcBinary_c_iff : (adcBinary p a m).2.c = true ↔ 255 < a.toNat + m.toNat + p.c.toNat := decide_eq_true_iff

/-- V by the signs of the operands and the result is overflow of the signed sum (R120). -/
theorem adcBinary_v_iff : (adcBinary p a m).2.v = true ↔
    a.toInt + m.toInt + p.c.toNat < -128 ∨ 127 < a.toInt + m.toInt + p.c.toNat := by
  have hr := adcBinary_toNat p a m
  have hc := carry_le_one p.c
  have hsigns : (adcBinary p a m).2.v = true ↔
      (128 ≤ a.toNat ↔ 128 ≤ m.toNat) ∧ ¬ (128 ≤ (adcBinary p a m).1.toNat ↔ 128 ≤ a.toNat) := by
    simp only [← msb_iff, ← Bool.eq_iff_iff]
    simp [adcBinary, Flags.setVC]
  rw [hsigns, hr, BitVec.toInt_eq_toNat_cond, BitVec.toInt_eq_toNat_cond]
  have := a.isLt
  have := m.isLt
  split_ifs <;> omega

theorem adcBinary_n : (adcBinary p a m).2.n = (adcBinary p a m).1.getLsbD 7 :=
  BitVec.msb_eq_getLsbD_last (adcBinary p a m).1

theorem adcBinary_z_iff : (adcBinary p a m).2.z = true ↔ (adcBinary p a m).1 = 0 := beq_iff_eq

theorem sbcResult_toNat : ((sbcResult p a m).toNat : Int) = sbcExact p a m % 256 := by
  simp only [sbcResult, BitVec.toNat_ofInt]
  omega

/-- Binary subtraction is binary addition of the one's complement (R129). -/
theorem adcBinary_not : adcBinary p a (~~~m) = (sbcResult p a m, sbcFlags p a m) := by
  have hnot : (~~~m).toNat = 255 - m.toNat := BitVec.toNat_not
  have hm := m.isLt
  have hresult : BitVec.ofNat 8 (a.toNat + (~~~m).toNat + p.c.toNat) = sbcResult p a m := by
    apply BitVec.eq_of_toNat_eq
    have hr := sbcResult_toNat p a m
    simp only [sbcExact, BitVec.toNat_ofNat, hnot] at hr ⊢
    omega
  have hcarry : decide (a.toNat + (~~~m).toNat + p.c.toNat > 255) = decide (sbcExact p a m ≥ 0) := by
    rw [decide_eq_decide, sbcExact, hnot]
    omega
  have hsigns : (a.msb == (~~~m).msb) = (a.msb != m.msb) := by
    rw [BitVec.msb_not]
    cases a.msb <;> cases m.msb <;> rfl
  simp only [adcBinary, sbcFlags, hresult, hcarry, hsigns]

theorem adc_of_binary {p : Flags} (hd : p.d = false) (a m : Byte) : adc p a m = adcBinary p a m := by
  simp [adc, hd]

theorem adc_of_decimal {p : Flags} (hd : p.d = true) (a m : Byte) : adc p a m = adcDecimal p a m := by
  simp [adc, hd]

theorem sbc_of_binary {p : Flags} (hd : p.d = false) (a m : Byte) :
    sbc p a m = (sbcResult p a m, sbcFlags p a m) := by simp [sbc, hd]

theorem sbc_of_decimal {p : Flags} (hd : p.d = true) (a m : Byte) :
    sbc p a m = (sbcDecimal p a m, sbcFlags p a m) := by simp [sbc, hd]

theorem sbcFlags_c_iff : (sbcFlags p a m).c = true ↔ 0 ≤ sbcExact p a m := decide_eq_true_iff

theorem sbcFlags_n_iff : (sbcFlags p a m).n = true ↔ 128 ≤ sbcExact p a m % 256 := by
  rw [sbcFlags, Flags.setNZ_n_iff, ← sbcResult_toNat]
  omega

theorem sbcFlags_z_iff : (sbcFlags p a m).z = true ↔ sbcExact p a m % 256 = 0 := by
  rw [sbcFlags, Flags.setNZ_z_iff, ← sbcResult_toNat]
  omega

/-- V of a difference is V of the sum it is (R129). -/
theorem sbcFlags_v_iff : (sbcFlags p a m).v = true ↔
    a.toInt - m.toInt - (1 - p.c.toNat) < -128 ∨ 127 < a.toInt - m.toInt - (1 - p.c.toNat) := by
  have hsum := adcBinary_v_iff p a (~~~m)
  have hnot : (~~~m).toInt = -m.toInt - 1 := by
    have := m.isLt
    rw [BitVec.toInt_eq_toNat_cond, BitVec.toInt_eq_toNat_cond, BitVec.toNat_not]
    split_ifs <;> omega
  rw [adcBinary_not, hnot] at hsum
  rw [hsum]
  omega

end

/-! ### Decimal digits -/

theorem lowDigit_eq (v : Byte) : lowDigit v = (v &&& 0x0F).toNat := (Nat.and_two_pow_sub_one_eq_mod v.toNat 4).symm

theorem highDigit_eq (v : Byte) : highDigit v = (v &&& 0xF0).toNat := by
  revert v
  decide

theorem sx_toNat (v : Byte) : sx v.toNat = v.toInt := by
  rw [sx, BitVec.toInt_eq_toNat_cond]
  split_ifs <;> omega

theorem isBcd_iff (v : Byte) : isBcd v = true ↔ v.toNat / 16 ≤ 9 ∧ v.toNat % 16 ≤ 9 := by simp [isBcd]

/-- A byte that is the number `16 * h + l`, `h` and `l` decimal digits, stands for `10 * h + l`. -/
theorem bcd_of_digits {v : Byte} {h l : Nat} (hv : v.toNat = 16 * h + l) (hh : h ≤ 9) (hl : l ≤ 9) :
    isBcd v = true ∧ bcdValue v = 10 * h + l := by
  rw [isBcd_iff, bcdValue, hv]
  omega

section
variable (p : Flags) (a m : Byte)

/-- `T` of R121 after its decimal adjustment. -/
def adcHigh : Nat :=
  let t := highDigit a + highDigit m + adcLow p a m
  if 0xA0 ≤ t then t + 0x60 else t

/-- `D` of R130 after its decimal adjustment. -/
def sbcHigh : Int :=
  let d : Int := (highDigit a : Int) - highDigit m + sbcLow p a m
  if d < 0 then d - 0x60 else d

theorem sbcDecimal_toNat : ((sbcDecimal p a m).toNat : Int) = sbcHigh p a m % 256 := by
  simp only [sbcDecimal, sbcHigh, BitVec.toNat_ofInt]
  omega

theorem adcDecimal_toNat : (adcDecimal p a m).1.toNat = adcHigh p a m % 256 := BitVec.toNat_ofNat ..

theorem adcDecimal_c_iff : (adcDecimal p a m).2.c = true ↔ 0x100 ≤ adcHigh p a m := decide_eq_true_iff

theorem adcDecimal_n_iff : (adcDecimal p a m).2.n = true ↔
    128 ≤ (sx (highDigit a) + sx (highDigit m) + adcLow p a m) % 256 := decide_eq_true_iff

theorem adcDecimal_v_iff : (adcDecimal p a m).2.v = true ↔
    sx (highDigit a) + sx (highDigit m) + adcLow p a m < -128 ∨
      127 < sx (highDigit a) + sx (highDigit m) + adcLow p a m := by
  simp [adcDecimal]

theorem adcDecimal_z_iff : (adcDecimal p a m).2.z = true ↔ (a.toNat + m.toNat + p.c.toNat) % 256 = 0 := by
  have hz : (adcDecimal p a m).2.z = true ↔ BitVec.ofNat 8 (a.toNat + m.toNat + p.c.toNat) = 0 := beq_iff_eq
  rw [hz, ← BitVec.toNat_inj, BitVec.toNat_ofNat]
  rfl

variable {a m}

/-- The low digits and C add to a carry and a digit, which `AL` holds 16 to 1. -/
theorem adcLow_digits (ha : isBcd a = true) (hm : isBcd m = true) :
    ∃ k l, adcLow p a m = 16 * k + l ∧ 10 * k + l = a.toNat % 16 + m.toNat % 16 + p.c.toNat ∧ k ≤ 1 ∧ l ≤ 9 := by
  rw [isBcd_iff] at ha hm
  have hc := carry_le_one p.c
  generalize hal : a.toNat % 16 + m.toNat % 16 + p.c.toNat = al
  simp only [adcLow, lowDigit, hal]
  split_ifs
  · exact ⟨1, al - 10, by omega⟩
  · exact ⟨0, al, by omega⟩

/-- The decimal sum of two numbers of two digits and C, which `T` holds digit by digit. -/
theorem adcHigh_digits (ha : isBcd a = true) (hm : isBcd m = true) :
    ∃ k h l, adcHigh p a m = 256 * k + 16 * h + l ∧
      100 * k + 10 * h + l = bcdValue a + bcdValue m + p.c.toNat ∧ k ≤ 1 ∧ h ≤ 9 ∧ l ≤ 9 := by
  obtain ⟨k, l, hlow, hsum, hk, hl⟩ := adcLow_digits p ha hm
  rw [isBcd_iff] at ha hm
  simp only [adcHigh, highDigit, bcdValue, hlow]
  split_ifs
  · exact ⟨1, a.toNat / 16 + m.toNat / 16 + k - 10, l, by omega⟩
  · exact ⟨0, a.toNat / 16 + m.toNat / 16 + k, l, by omega⟩

/-- The low digits and the borrow subtract to a borrow and a digit, which `AL` of R130 holds 16 to 1. -/
theorem sbcLow_digits (ha : isBcd a = true) (hm : isBcd m = true) :
    ∃ k l : Nat, sbcLow p a m = l - 16 * k ∧
      (l : Int) - 10 * k = (a.toNat % 16 : Nat) - (m.toNat % 16 : Nat) - (1 - p.c.toNat) ∧ k ≤ 1 ∧ l ≤ 9 := by
  rw [isBcd_iff] at ha hm
  have hc := carry_le_one p.c
  simp only [sbcLow, lowDigit]
  split_ifs
  · exact ⟨1, a.toNat % 16 + p.c.toNat + 9 - m.toNat % 16, by omega⟩
  · exact ⟨0, a.toNat % 16 + p.c.toNat - 1 - m.toNat % 16, by omega⟩

/-- The decimal difference of two numbers of two digits less the borrow, which `D` holds digit by digit. -/
theorem sbcHigh_digits (ha : isBcd a = true) (hm : isBcd m = true) :
    ∃ k h l : Nat, sbcHigh p a m = 16 * h + l - 256 * k ∧
      10 * (h : Int) + l - 100 * k = bcdValue a - bcdValue m - (1 - p.c.toNat) ∧ k ≤ 1 ∧ h ≤ 9 ∧ l ≤ 9 := by
  obtain ⟨k, l, hlow, hdiff, hk, hl⟩ := sbcLow_digits p ha hm
  rw [isBcd_iff] at ha hm
  simp only [sbcHigh, highDigit, bcdValue, hlow]
  split_ifs
  · exact ⟨1, a.toNat / 16 + 10 - m.toNat / 16 - k, l, by omega⟩
  · exact ⟨0, a.toNat / 16 - m.toNat / 16 - k, l, by omega⟩

/-- On decimal digits the binary difference is negative where the decimal one is. -/
theorem sbcExact_neg_iff (ha : isBcd a = true) (hm : isBcd m = true) :
    sbcExact p a m < 0 ↔ (bcdValue a : Int) - bcdValue m - (1 - p.c.toNat) < 0 := by
  rw [isBcd_iff] at ha hm
  have hc := carry_le_one p.c
  simp only [sbcExact, bcdValue]
  omega

end

end Sys2Proof.Machine
end

section
/-! The statements of 40_alu.md. -/

namespace Sys2Proof.Proofs

open Sys2Proof Sys2Proof.Machine

/-- Settles O23: the three operations bit by bit, in every form. -/
theorem logicOps : Obligations.LogicOps := by
  intro i s hi
  obtain ⟨o, ho⟩ := operandOf_isSome (i := i) (List.subset_def.mp (by decide) hi) (s.advance i.length)
  obtain ⟨t, hexec, ha, hp, hframe⟩ := exec_of_aluA (effect_of_logic hi i.mode s) ho
  refine ⟨o, t, ho, hexec, fun k _ => ?bits, ?flags, hframe⟩
  case bits => rw [ha, logicOf_getLsbD]
  case flags => rw [hp, ha, logicOf_flags]

/-- Settles O24: BIT in either form writes its flags alone. -/
theorem bitTest : Obligations.BitTest := by
  intro i s hi
  obtain ⟨o, ho⟩ := operandOf_isSome (i := i) (by simp [hi]) (s.advance i.length)
  obtain ⟨t, hexec, ha, hp, hframe⟩ :=
    exec_of_testFlags (f := bitFlags) (reg := State.a) (by rw [hi]; rfl) (fun _ h => h.a) ho
  refine ⟨o, t, ho, hexec, ha, ?z, ?n, ?v, ?d, ?i, ?c, hframe⟩ <;> rw [hp]
  case z => exact bitFlags_z_iff s.p s.a o.1
  all_goals rfl

/-- Settles O25: the three compares differ in the register only. -/
theorem compares : Obligations.Compares := by
  intro i s hi
  obtain ⟨o, ho⟩ := operandOf_isSome (i := i) (List.subset_def.mp (by decide) hi) (s.advance i.length)
  obtain ⟨t, hexec, ha, hp, hframe⟩ :=
    exec_of_testFlags (effect_of_compare hi i.mode s) (fun _ => comparedOf_congr i.mnemonic) ho
  refine ⟨comparedOf i.mnemonic s, o, t, rfl, ho, hexec, ha, ?c, ?z, ?n, ?v, ?d, ?i, hframe⟩ <;> rw [hp]
  case c => exact compareFlags_c_iff ..
  case z => exact compareFlags_z_iff ..
  case n => exact compareFlags_n_iff ..
  all_goals rfl

/-- Settles O26, from the binary sum in numbers. -/
theorem adcBinary : Obligations.AdcBinary := by
  intro i s hi hd
  obtain ⟨o, ho⟩ := operandOf_isSome (i := i) (by simp [hi]) (s.advance i.length)
  obtain ⟨t, hexec, ha, hp, hframe⟩ := exec_of_adc hi ho
  rw [adc_of_binary hd] at ha hp
  refine ⟨o, t, ho, hexec, ?result, ?c, ?v, ?n, ?z, ?d, ?i, hframe⟩ <;> simp only [ha, hp]
  case result => exact adcBinary_toNat ..
  case c => exact adcBinary_c_iff ..
  case v => exact adcBinary_v_iff ..
  case n => exact adcBinary_n ..
  case z => exact adcBinary_z_iff ..
  all_goals rfl

/-- Settles O27: the masks of R121 are the digits the model computes with. -/
theorem adcDecimal : Obligations.AdcDecimal := by
  intro i s hi hd
  obtain ⟨o, ho⟩ := operandOf_isSome (i := i) (by simp [hi]) (s.advance i.length)
  obtain ⟨t, hexec, ha, hp, hframe⟩ := exec_of_adc hi ho
  rw [adc_of_decimal hd] at ha hp
  refine ⟨o, t, ho, hexec, ?digits, ?z, ?d, ?i, hframe⟩
  case digits =>
    rintro _ _ al al' t1 t1' hs rfl rfl hal hal' rfl rfl ht1'
    obtain rfl : al' = adcLow s.p s.a o.1 := by rw [hal', hal, ← lowDigit_eq, ← lowDigit_eq]; rfl
    obtain rfl : t1' = adcHigh s.p s.a o.1 := by rw [ht1', ← highDigit_eq, ← highDigit_eq]; rfl
    rw [hp, ha, ← sx_toNat, ← sx_toNat, ← highDigit_eq, ← highDigit_eq]
    exact ⟨adcDecimal_n_iff .., adcDecimal_v_iff .., adcDecimal_c_iff .., adcDecimal_toNat ..⟩
  case z => rw [hp, adcDecimal_z_iff]
  all_goals rw [hp]; rfl

/-- Settles O28: the sum's three decimal digits are C and the two digits of A. -/
theorem adcDecimalIsDecimalSum : Obligations.AdcDecimalIsDecimalSum := by
  intro i s o hi hd ho hbcdA hbcdM
  obtain ⟨t, hexec, ha, hp, _⟩ := exec_of_adc hi ho
  rw [adc_of_decimal hd] at ha hp
  obtain ⟨k, h, l, hhigh, hsum, hk, hh, hl⟩ := adcHigh_digits s.p hbcdA hbcdM
  have hA : t.a.toNat = 16 * h + l := by
    rw [ha, adcDecimal_toNat, hhigh]
    omega
  obtain ⟨hbcd, hvalue⟩ := bcd_of_digits hA hh hl
  refine ⟨t, hexec, hbcd, by omega, ?_⟩
  rw [hp, adcDecimal_c_iff, hhigh]
  omega

/-- Settles O29: the flags are those of the binary difference, whatever D is. -/
theorem sbcFlagsAndBinaryResult : Obligations.SbcFlagsAndBinaryResult := by
  intro i s hi
  obtain ⟨o, ho⟩ := operandOf_isSome (i := i) (by simp [hi]) (s.advance i.length)
  obtain ⟨t, hexec, ha, hp, hframe⟩ := exec_of_sbc hi ho
  refine ⟨o, t, ho, hexec, fun hd => ?result, ?c, ?v, ?n, ?z, ?d, ?i, hframe⟩
  case result => rw [ha, sbc_of_binary hd, sbcResult_toNat, sbcExact]
  all_goals rw [hp]
  case c => exact sbcFlags_c_iff ..
  case v => exact sbcFlags_v_iff ..
  case n => exact sbcFlags_n_iff ..
  case z => exact sbcFlags_z_iff ..
  all_goals rfl

/-- Settles O30: the masks of R130 are the digits the model computes with. -/
theorem sbcDecimal : Obligations.SbcDecimal := by
  intro i s hi hd
  obtain ⟨o, ho⟩ := operandOf_isSome (i := i) (by simp [hi]) (s.advance i.length)
  obtain ⟨t, hexec, ha, _, _⟩ := exec_of_sbc hi ho
  refine ⟨o, t, ho, hexec, ?_⟩
  rintro al al' d d' hal hal' rfl hd'
  obtain rfl : al' = sbcLow s.p s.a o.1 := by rw [hal', hal, ← lowDigit_eq, ← lowDigit_eq]; rfl
  obtain rfl : d' = sbcHigh s.p s.a o.1 := by rw [hd', ← highDigit_eq, ← highDigit_eq]; rfl
  rw [ha, sbc_of_decimal hd, sbcDecimal_toNat]

/-- Settles O31: A holds the two digits of the difference, and C is the borrow of the binary one. -/
theorem sbcDecimalIsDecimalDifference : Obligations.SbcDecimalIsDecimalDifference := by
  intro i s o hi hd ho hbcdA hbcdM
  obtain ⟨t, hexec, ha, hp, _⟩ := exec_of_sbc hi ho
  rw [sbc_of_decimal hd] at ha
  obtain ⟨k, h, l, hhigh, hdiff, hk, hh, hl⟩ := sbcHigh_digits s.p hbcdA hbcdM
  have hA : t.a.toNat = 16 * h + l := by
    have hresult : (t.a.toNat : Int) = sbcHigh s.p s.a o.1 % 256 := by rw [ha, sbcDecimal_toNat]
    omega
  obtain ⟨hbcd, hvalue⟩ := bcd_of_digits hA hh hl
  refine ⟨t, hexec, hbcd, by omega, ?_⟩
  rw [hp, ← sbcExact_neg_iff s.p hbcdA hbcdM, ← not_le, ← sbcFlags_c_iff, Bool.not_eq_true]

/-- Settles O32: both differences are the sum with the complement, result and flags. -/
theorem sbcIsAdcOfComplement : Obligations.SbcIsAdcOfComplement := by
  intro b s hd
  have hsum : adc s.p s.a (~~~b) = sbc s.p s.a b := by
    rw [adc_of_binary hd, sbc_of_binary hd, adcBinary_not]
  have hrun : aluA adc (immediate (~~~b) (s.advance 2)) = aluA sbc (immediate b (s.advance 2)) :=
    congrArg (fun r : Byte × Flags => ((s.advance 2).setA r.1).setP r.2) hsum
  exact ⟨_, congrArg Host.Outcome.next hrun, rfl, rfl⟩

end Sys2Proof.Proofs
end

section
/-! What a write reaches, and read-modify-write, said once; then the shifts of 41_shift_rotate.md bit by bit. -/

namespace Sys2Proof.Machine

open Sys2Proof

/-! ### Writes -/

section
variable (s : State) (w : Word) (v : Byte)

theorem State.store_portDdr :
    (s.store w v).portDdr = if targetOf s.params w = .ddr then v.setWidth 6 else s.portDdr := by
  unfold State.store State.accept
  split <;> simp [*]

theorem State.store_portLatch :
    (s.store w v).portLatch = if targetOf s.params w = .data then v.setWidth 6 else s.portLatch := by
  unfold State.store State.accept
  split <;> simp [*]

/-- A write to anything but RAM leaves memory alone. -/
theorem State.store_peek_not_ram (h : ¬ IsRam s w) (b : Word) : (s.store w v).peek b = s.peek b := by
  obtain ⟨mem, _, _, hs, hmem | ⟨hram, _⟩, _⟩ := s.store_spec w v
  · rw [State.peek, hs, hmem]
    rfl
  · exact absurd hram h

/-- A write presents its byte to its address (20_memory.md R57). -/
theorem stored_store : Stored w v s (s.store w v) where
  ram h := State.store_peek_ram v h
  kept h := s.store_peek_not_ram w v h w
  others _ hb := s.store_peek_other v hb
  ddr := s.store_portDdr w v
  latch := s.store_portLatch w v

end

/-- What a write does is said of any state with the memory, port and parameters it started from. -/
theorem Stored.of_same {w : Word} {v : Byte} {s u t : State} (hmem : SameMemory s u) (hport : SamePort s u)
    (hparams : u.params = s.params) (h : Stored w v u t) : Stored w v s t := by
  obtain ⟨hram, hkept, hothers, hddr, hlatch⟩ := h
  simp only [IsRam, hparams, hmem _, hport.ddr, hport.latch] at hram hkept hothers hddr hlatch
  exact ⟨hram, hkept, hothers, hddr, hlatch⟩

theorem Stored.setP {w : Word} {v : Byte} {s t : State} (h : Stored w v s t) (p : Flags) : Stored w v s (t.setP p) :=
  ⟨h.ram, h.kept, h.others, h.ddr, h.latch⟩

/-! ### Read-modify-write -/

/-- What a read-modify-write instruction `i` at the mode `m` does from `s` to `t` but for the flags, where it reads
`v` and writes `r` (30_encoding.md R95): one read and one write at one address, and the registers stay. -/
def ModifyFrame (i : Instr) (m : MemMode) (s : State) (v r : Byte) (t : State) : Prop :=
  Stored (ea m (s.advance i.length)).1 r s t ∧
    t.trace = .write (ea m (s.advance i.length)).1 r :: .read (ea m (s.advance i.length)).1 v ::
      (ea m (s.advance i.length)).2.trace ∧
    SameRegisters s t ∧ t.pc = s.pc + BitVec.ofNat 16 i.length ∧ SameControl s t

/-- The byte that is written is what `f` gives of the one byte read. -/
theorem stored_modifyMem (m : MemMode) (f : Flags → Byte → Byte × Flags) (s : State) :
    Stored (ea m s).1 (f s.p (fetchOperand m s).1).1 s (modifyMem m f s) := by
  have hstored := stored_store (fetchOperand m s).2 (ea m s).1 (f s.p (fetchOperand m s).1).1
  have hread := hstored.of_same (s := s) (fun b => by simp) ⟨by simp, by simp⟩ (by simp)
  simpa [modifyMem] using hread.setP (f s.p (fetchOperand m s).1).2

/-- An instruction whose effect is `modifyMem m f` writes what `f` gives of the flags and the byte it reads. -/
theorem exec_of_modifyMem {i : Instr} {m : MemMode} {s : State} {f : Flags → Byte → Byte × Flags}
    (he : effect i.mnemonic i.mode s = modifyMem m f (s.advance i.length)) :
    ∃ v t, v = (fetchOperand m (s.advance i.length)).1 ∧ exec i s = .next t ∧ t.p = (f s.p v).2 ∧
      ModifyFrame i m s v (f s.p v).1 t := by
  refine ⟨_, modifyMem m f (s.advance i.length), rfl, by rw [exec_eq_effect, he], by simp [modifyMem], ?stored,
    by simp [modifyMem], ?registers, by simp [modifyMem], ?control⟩
  case stored => exact Stored.of_same (u := s.advance i.length) (fun _ => rfl) ⟨rfl, rfl⟩ rfl (stored_modifyMem m f _)
  case registers => constructor <;> simp [modifyMem]
  case control => constructor <;> simp [modifyMem]

/-! ### The figures of the shifts -/

section
variable (p : Flags) (v : Byte)

/-- ASL is ROL with a 0 entering (41_shift_rotate.md R141, R143). -/
theorem aslOp_eq_rolOp : aslOp p v = rolOp (p.setC false) v := by
  have hresult : BitVec.ofNat 8 (2 * v.toNat) = BitVec.ofNat 8 (2 * v.toNat % 256 + (p.setC false).c.toNat) := by
    apply BitVec.eq_of_toNat_eq
    simp [Flags.setC]
  simp only [aslOp, rolOp, ← hresult]
  rfl

/-- LSR is ROR with a 0 entering, which is why it writes N 0 (R142, R144). -/
theorem lsrOp_eq_rorOp : lsrOp p v = rorOp (p.setC false) v := by
  have hpositive : (BitVec.ofNat 8 (v.toNat / 2)).msb = false := by
    rw [Bool.eq_false_iff, ne_eq, msb_iff, BitVec.toNat_ofNat]
    omega
  simp [lsrOp, rorOp, Flags.setC, Flags.setNZ, hpositive]

/-- ROL takes the old C in at bit 0 (R143). -/
theorem rolOp_fst : (rolOp p v).1 = v.shiftConcat p.c := by
  have hc := carry_le_one p.c
  apply BitVec.eq_of_toNat_eq
  simp only [rolOp, BitVec.toNat_ofNat, BitVec.toNat_shiftConcat, Nat.shiftLeft_eq]
  omega

/-- The byte ROR has moved is the one it gives, with the bit that left taken in again (R144). -/
theorem shiftConcat_rorOp : (rorOp p v).1.shiftConcat (v.getLsbD 0) = v := by
  have hc := carry_le_one p.c
  have hv := v.isLt
  have hbit : (v.getLsbD 0).toNat = v.toNat % 2 := by
    rw [BitVec.getLsbD, Nat.toNat_testBit]
    omega
  apply BitVec.eq_of_toNat_eq
  simp only [rorOp, BitVec.toNat_ofNat, BitVec.toNat_shiftConcat, Nat.shiftLeft_eq, hbit]
  omega

theorem getLsbD_succ_shiftConcat (b : Bool) {k : Nat} (hk : k < 7) :
    (v.shiftConcat b).getLsbD (k + 1) = v.getLsbD k := by
  simp [BitVec.getLsbD_shiftConcat, show k + 1 < 8 by omega, -BitVec.getLsbD_eq_getElem]

theorem rolOp_shiftsLeft : ShiftsLeft v (rolOp p v).1 p.c (rolOp p v).2.c where
  moved k hk := by rw [rolOp_fst, getLsbD_succ_shiftConcat v p.c hk]
  entered := by simp [rolOp_fst]
  left := rfl

theorem rorOp_shiftsRight : ShiftsRight v (rorOp p v).1 p.c (rorOp p v).2.c where
  moved k hk := by rw [← getLsbD_succ_shiftConcat _ (v.getLsbD 0) hk, shiftConcat_rorOp]
  entered := by
    have hv := v.isLt
    rw [← BitVec.msb_eq_getLsbD_last, Bool.eq_iff_iff, msb_iff]
    cases hc : p.c <;> simp [rorOp, hc] <;> omega
  left := rfl

theorem aslOp_shiftsLeft : ShiftsLeft v (aslOp p v).1 false (aslOp p v).2.c := by
  rw [aslOp_eq_rolOp]
  exact rolOp_shiftsLeft (p.setC false) v

theorem lsrOp_shiftsRight : ShiftsRight v (lsrOp p v).1 false (lsrOp p v).2.c := by
  rw [lsrOp_eq_rorOp]
  exact rorOp_shiftsRight (p.setC false) v

theorem rolOp_flags : (rolOp p v).2 = { nzOf p (rolOp p v).1 with c := (rolOp p v).2.c } :=
  Flags.setNZ_eq_nzOf _ _

theorem rorOp_flags : (rorOp p v).2 = { nzOf p (rorOp p v).1 with c := (rorOp p v).2.c } :=
  Flags.setNZ_eq_nzOf _ _

theorem aslOp_flags : (aslOp p v).2 = { nzOf p (aslOp p v).1 with c := (aslOp p v).2.c } :=
  Flags.setNZ_eq_nzOf _ _

theorem lsrOp_flags : (lsrOp p v).2 = { nzOf p (lsrOp p v).1 with c := (lsrOp p v).2.c } := by
  rw [lsrOp_eq_rorOp]
  exact rorOp_flags (p.setC false) v

end

/-- The operation of ASL, LSR, ROL and ROR (R141 to R144). -/
def shiftOf (m : Mnemonic) : Flags → Byte → Byte × Flags :=
  if m = .asl then aslOp else if m = .lsr then lsrOp else if m = .rol then rolOp else rorOp

theorem effect_of_shift {m : Mnemonic} (hm : m ∈ shifts) (mode : Mode) (s : State) :
    effect m mode s = shiftEffect mode (shiftOf m) (s.advance mode.length) := by
  fin_cases hm <;> rfl

/-- Every shift moves the bits as its figure says (R141 to R144). -/
theorem shiftOf_shifted {m : Mnemonic} (hm : m ∈ shifts) (p : Flags) (v : Byte) :
    Shifted m p.c v (shiftOf m p v).1 (shiftOf m p v).2.c := by
  fin_cases hm
  · exact aslOp_shiftsLeft p v
  · exact lsrOp_shiftsRight p v
  · exact rolOp_shiftsLeft p v
  · exact rorOp_shiftsRight p v

/-- A shift writes C, and N and Z of its result. -/
theorem shiftOf_flags {m : Mnemonic} (hm : m ∈ shifts) (p : Flags) (v : Byte) :
    (shiftOf m p v).2 = { nzOf p (shiftOf m p v).1 with c := (shiftOf m p v).2.c } := by
  fin_cases hm
  · exact aslOp_flags p v
  · exact lsrOp_flags p v
  · exact rolOp_flags p v
  · exact rorOp_flags p v

/-! ### A rotation and its reverse -/

section
variable {v r u : Byte} {c c' c'' : Bool}

/-- Moving every bit right again, with the bit that left entering, restores the byte and the bit that entered. -/
theorem ShiftsLeft.undone (hl : ShiftsLeft v r c c') (hr : ShiftsRight r u c' c'') : u = v ∧ c'' = c := by
  refine ⟨BitVec.eq_of_getLsbD_eq fun k hk => ?_, hr.left.trans hl.entered⟩
  obtain rfl | hk7 : k = 7 ∨ k < 7 := by omega
  · exact hr.entered.trans hl.left
  · exact (hr.moved k hk7).trans (hl.moved k hk7)

theorem ShiftsRight.undone (hr : ShiftsRight v r c c') (hl : ShiftsLeft r u c' c'') : u = v ∧ c'' = c := by
  refine ⟨BitVec.eq_of_getLsbD_eq fun k hk => ?_, hl.left.trans hr.entered⟩
  cases k with
  | zero => exact hl.entered.trans hr.left
  | succ k => exact (hl.moved k (by omega)).trans (hr.moved k (by omega))

end

end Sys2Proof.Machine
end

section
/-! The statements of 41_shift_rotate.md. -/

namespace Sys2Proof.Proofs

open Sys2Proof Sys2Proof.Machine

/-- Settles O33: in Accumulator mode a shift is its figure on A. -/
theorem shiftsOnAccumulator : Obligations.ShiftsOnAccumulator := by
  intro i s hi hmode
  have he := effect_of_shift hi i.mode s
  rw [hmode] at he
  refine ⟨modifyReg State.setA State.a (shiftOf i.mnemonic) (s.advance 1), ?exec, shiftOf_shifted hi s.p s.a,
    shiftOf_flags hi s.p s.a, rfl, rfl, rfl, rfl, ⟨rfl, rfl, rfl⟩, fun _ => rfl, ⟨rfl, rfl⟩,
    ⟨rfl, rfl, rfl, rfl, rfl⟩⟩
  case exec =>
    rw [exec_eq_effect, hmode, he]
    rfl

/-- Settles O34: in a memory mode a shift is a read-modify-write with its figure. -/
theorem shiftsInMemory : Obligations.ShiftsInMemory := by
  intro i m s hi hmode
  have he : effect i.mnemonic i.mode s = modifyMem m (shiftOf i.mnemonic) (s.advance i.length) := by
    rw [effect_of_shift hi, hmode, Instr.length, hmode]
    rfl
  obtain ⟨v, t, hv, hexec, hp, hframe⟩ := exec_of_modifyMem he
  refine ⟨v, (shiftOf i.mnemonic s.p v).1, t, hv, hexec, ?shifted, ?flags, hframe⟩ <;> rw [hp]
  case shifted => exact shiftOf_shifted hi s.p v
  case flags => exact shiftOf_flags hi s.p v

/-- Settles O35: the figures of ROL and ROR undo each other bit by bit. -/
theorem rotatesUndoEachOther : Obligations.RotatesUndoEachOther := by
  intro s
  have rol (s : State) : ∃ t, exec .rolAcc s = .next t ∧ ShiftsLeft s.a t.a s.p.c t.p.c := by
    obtain ⟨t, hexec, hfigure, _⟩ := shiftsOnAccumulator .rolAcc s (by decide) rfl
    exact ⟨t, hexec, hfigure⟩
  have ror (s : State) : ∃ t, exec .rorAcc s = .next t ∧ ShiftsRight s.a t.a s.p.c t.p.c := by
    obtain ⟨t, hexec, hfigure, _⟩ := shiftsOnAccumulator .rorAcc s (by decide) rfl
    exact ⟨t, hexec, hfigure⟩
  constructor
  case left =>
    obtain ⟨t, ht, hl⟩ := rol s
    obtain ⟨u, hu, hr⟩ := ror t
    exact ⟨t, u, ht, hu, hl.undone hr⟩
  case right =>
    obtain ⟨t, ht, hr⟩ := ror s
    obtain ⟨u, hu, hl⟩ := rol t
    exact ⟨t, u, ht, hu, hr.undone hl⟩

end Sys2Proof.Proofs
end

section
/-! Branches, said once: the mnemonic gives the condition, and the displacement is added to PC in numbers. -/

namespace Sys2Proof.Machine

open Sys2Proof

/-- Adding a sign-extended displacement to an address is addition modulo 65,536, whatever the displacement. -/
theorem toNat_add_sext16 (w : Word) (d : Int) : ((w + sext16 d).toNat : Int) = (w.toNat + d) % 65536 := by
  rw [sext16, BitVec.toNat_add, BitVec.toNat_ofInt]
  omega

/-- A branch not taken is one whose displacement is 0. -/
theorem branchIf_eq_setPc (cond : Bool) (d : Int) (s : State) :
    branchIf cond d s = s.setPc (s.pc + sext16 (if cond = true then d else 0)) := by
  cases cond with
  | true => rfl
  | false => exact congrArg s.setPc (BitVec.add_zero s.pc).symm

/-- A branch tests the flags of the state it starts from (R151 to R158). -/
theorem effect_of_branchTest {m : Mnemonic} {test : Flags → Bool} (hm : branchTest m = some test) (mode : Mode)
    (s : State) : effect m mode s = branchEffect mode (test s.p) (s.advance mode.length) := by
  cases m with
  | bcc | bcs | beq | bmi | bne | bpl | bvc | bvs =>
    cases hm
    rfl
  | _ => cases hm

/-- A taken or untaken branch moves PC past its two bytes and then by the displacement or by 0, and that is all (R150). -/
theorem exec_of_branchTest {i : Instr} {d : Int} {test : Flags → Bool} (hi : branchTest i.mnemonic = some test)
    (hmode : i.mode = .rel d) (s : State) :
    exec i s = .next (s.setPc (s.pc + 2 + sext16 (if test s.p = true then d else 0))) := by
  have heffect : effect i.mnemonic i.mode s = branchIf (test s.p) d (s.advance 2) := by
    rw [effect_of_branchTest hi, hmode]
    rfl
  rw [exec_eq_effect, heffect, branchIf_eq_setPc]
  rfl

end Sys2Proof.Machine
end

section
/-! The statement of 42_branches.md. -/

namespace Sys2Proof.Proofs

open Sys2Proof Sys2Proof.Machine

/-- Settles O40: the branch is one change of PC, whose target is read in numbers. -/
theorem branches : Obligations.Branches := by
  intro i d test s hi hmode
  refine ⟨_, exec_of_branchTest hi hmode s, rfl, ?target⟩
  case target =>
    have hpast : (s.pc + 2).toNat = (s.pc.toNat + 2) % 65536 := BitVec.toNat_add s.pc 2
    rw [State.setPc_pc, toNat_add_sext16, hpast]
    omega

end Sys2Proof.Proofs
end

section
/-! What the stack holds and gives, said once: a push writes its slot of page one and nothing else, and a word that is
pulled or read has its low byte first; from these, taking an interrupt and returning from one. Then NOP. -/

namespace Sys2Proof.Machine

open Sys2Proof

/-! ### Bytes and words read -/

theorem State.load_fst_of_readable {s : State} {addr : Word} (h : Readable s addr) : (s.load addr).1 = s.peek addr := by
  rw [State.load_readable h]

/-- The bytes `lo` at `p` and then `hi` at `q` have been read between the records of `s` and `t`, and are those of
memory where memory answers (20_memory.md R51, R57). -/
structure ReadPair (s t : State) (p q : Word) (lo hi : Byte) : Prop where
  trace : t.trace = .read q hi :: .read p lo :: s.trace
  low : Readable s p → lo = s.peek p
  high : Readable s q → hi = s.peek q

theorem State.loadWord_reads (s : State) (addr : Word) : ∃ lo hi, (s.loadWord addr).1 = wordOf lo hi ∧
    ReadPair s (s.loadWord addr).2 addr (addr + 1) lo hi := by
  refine ⟨_, _, rfl, by simp [State.loadWord], State.load_fst_of_readable, fun h => ?_⟩
  have hread : Readable (s.load addr).2 (addr + 1) := by simpa [Readable] using h
  simpa using State.load_fst_of_readable hread

theorem State.pull_fst_of_readable {s : State} (h : Readable s (stackAddr (s.sp + 1))) :
    s.pull.1 = s.peek (stackAddr (s.sp + 1)) :=
  State.load_fst_of_readable (s := s.setSp (s.sp + 1)) h

theorem State.pullWord_reads (s : State) : ∃ lo hi, s.pullWord.1 = wordOf lo hi ∧
    ReadPair s s.pullWord.2 (stackAddr (s.sp + 1)) (stackAddr (s.sp + 2)) lo hi := by
  have hsp : s.sp + 2 = s.pull.2.sp + 1 := by
    rw [State.pull_sp]
    bv_omega
  rw [hsp]
  refine ⟨_, _, rfl, by simp [State.pullWord], State.pull_fst_of_readable, fun h => ?_⟩
  have hread : Readable s.pull.2 (stackAddr (s.pull.2.sp + 1)) := by simpa [Readable] using h
  simpa using State.pull_fst_of_readable hread

/-! ### Pushes -/

/-- Page one holds neither port register (10_state.md R38, 20_memory.md R58). -/
theorem targetOf_stackAddr (c : Params) (sp : Byte) :
    targetOf c (stackAddr sp) = .region (regionKind c.platform (stackAddr sp).toNat) := by
  have hpage := stackAddr_toNat sp
  have hzero : stackAddr sp ≠ 0 := by bv_omega
  have hone : stackAddr sp ≠ 1 := by bv_omega
  rw [targetOf, if_neg fun h => hzero h.2, if_neg fun h => hone h.2]

@[simp] theorem State.push_portDdr (s : State) (v : Byte) : (s.push v).portDdr = s.portDdr := by
  simp [State.push, State.store_portDdr, targetOf_stackAddr]

@[simp] theorem State.push_portLatch (s : State) (v : Byte) : (s.push v).portLatch = s.portLatch := by
  simp [State.push, State.store_portLatch, targetOf_stackAddr]

theorem State.push_peek_not_ram {s : State} (v : Byte) {b : Word} (h : ¬ IsRam s b) : (s.push v).peek b = s.peek b := by
  by_cases hb : b = stackAddr s.sp
  · subst hb
    simpa [State.push] using s.store_peek_not_ram _ v h _
  · exact s.push_peek_other v hb

/-- Stack slots fewer than 256 pushes apart are different addresses. -/
theorem stackSlot_ne {s : State} {j k : Nat} (hjk : j < k) (hk : k < 256) : stackSlot s j ≠ stackSlot s k := by
  intro h
  have hslot := congrArg BitVec.toNat (stackAddr_inj h)
  simp only [BitVec.toNat_sub, BitVec.toNat_ofNat] at hslot
  omega

theorem pushed_nil (s : State) : Pushed [] s s := ⟨by simp, fun _ _ => rfl, fun _ _ => rfl⟩

/-- One more push: the byte goes to the next slot, and the slots above it stay. -/
theorem Pushed.push {vs : List Byte} {s t : State} (h : Pushed vs s t) (hlength : vs.length < 256)
    (hsp : t.sp = s.sp - BitVec.ofNat 8 vs.length) (hparams : t.params = s.params) (v : Byte) :
    Pushed (vs ++ [v]) s (t.push v) := by
  have hslot : stackSlot s vs.length = stackAddr t.sp := by rw [stackSlot, hsp]
  have hram (b : Word) : IsRam t b ↔ IsRam s b := by rw [IsRam, IsRam, hparams]
  constructor
  case slots =>
    intro k u hk hkram
    obtain hlt | rfl | hgt := Nat.lt_trichotomy k vs.length
    · rw [List.getElem?_append_left hlt] at hk
      rw [t.push_peek_other v (hslot ▸ stackSlot_ne hlt hlength)]
      exact h.slots k u hk hkram
    · obtain rfl : v = u := by simpa using hk
      rw [hslot] at hkram ⊢
      exact State.push_peek_ram v ((hram _).mpr hkram)
    · simp [List.getElem?_eq_none (show (vs ++ [v]).length ≤ k by simpa using hgt)] at hk
  case others =>
    intro b hb
    simp only [List.length_append, List.length_singleton] at hb
    rw [t.push_peek_other v (hslot ▸ hb vs.length (by omega))]
    exact h.others b fun k hk => hb k (by omega)
  case notRam =>
    intro b hb
    rw [State.push_peek_not_ram v (mt (hram b).mp hb)]
    exact h.notRam b hb

@[simp] theorem State.pushWord_trace (s : State) (w : Word) : (s.pushWord w).trace =
    .write (stackAddr (s.sp - 1)) (loByte w) :: .write (stackAddr s.sp) (hiByte w) :: s.trace := by
  simp [State.pushWord]

theorem pushed_pushWord (s : State) (w : Word) : Pushed [hiByte w, loByte w] s (s.pushWord w) :=
  ((pushed_nil s).push (by simp) (by simp) rfl _).push (by simp) rfl (by simp) _

theorem Pushed.setP {vs : List Byte} {s t : State} (h : Pushed vs s t) (p : Flags) : Pushed vs s (t.setP p) :=
  ⟨h.slots, h.others, h.notRam⟩

/-- No push can change what lies above the stack's page. -/
theorem Pushed.peek_above_page {vs : List Byte} {s t : State} (h : Pushed vs s t) {b : Word} (hb : 512 ≤ b.toNat) :
    t.peek b = s.peek b := by
  refine h.others b fun k _ heq => ?_
  have hpage := stackAddr_toNat (s.sp - BitVec.ofNat 8 k)
  have hlt := (s.sp - BitVec.ofNat 8 k).isLt
  rw [heq, stackSlot] at hb
  omega

/-! ### Taking an interrupt and returning from one -/

@[simp] theorem State.enter_portDdr (s : State) (ret : Word) (b : Bool) (vector : Word) :
    (s.enter ret b vector).portDdr = s.portDdr := by simp [State.enter, State.pushWord]

@[simp] theorem State.enter_portLatch (s : State) (ret : Word) (b : Bool) (vector : Word) :
    (s.enter ret b vector).portLatch = s.portLatch := by simp [State.enter, State.pushWord]

/-- Entry pushes the return address, high byte first, and the status; then it reads the vector, low byte first
(60_exceptions.md R237). The vectors lie above the stack's page (R232). -/
theorem State.enter_frame (s : State) (ret : Word) (b : Bool) {vector next : Word} (hnext : vector + 1 = next)
    (hvector : 512 ≤ vector.toNat) (hnextPage : 512 ≤ next.toNat) : ∃ lo hi : Byte,
    Pushed [hiByte ret, loByte ret, s.p.pack b] s (s.enter ret b vector) ∧
    (s.enter ret b vector).pc = wordOf lo hi ∧
    (s.enter ret b vector).trace = [.read next hi, .read vector lo, .write (stackSlot s 2) (s.p.pack b),
      .write (stackSlot s 1) (loByte ret), .write (stackSlot s 0) (hiByte ret)] ++ s.trace ∧
    (Readable s vector → lo = s.peek vector) ∧ (Readable s next → hi = s.peek next) := by
  have hpushed : Pushed [hiByte ret, loByte ret, s.p.pack b] s ((s.pushWord ret).push (s.p.pack b)) :=
    (pushed_pushWord s ret).push (by simp) (by simp) (by simp) _
  obtain ⟨lo, hi, hword, htrace, hlow, hhigh⟩ :=
    (((s.pushWord ret).push (s.p.pack b)).setI true).loadWord_reads vector
  subst hnext
  simp only [State.setI_peek, hpushed.peek_above_page hvector, hpushed.peek_above_page hnextPage] at hlow hhigh
  refine ⟨lo, hi, ?pushed, by simp [State.enter, hword], ?trace, ?low, ?high⟩
  case pushed =>
    obtain ⟨hslots, hothers, hnotRam⟩ := hpushed
    constructor <;> simpa [State.enter]
  case trace => simp [State.enter, htrace, stackSlot]
  case low => simpa [Readable] using hlow
  case high => simpa [Readable] using hhigh

/-- Return pulls the status and then PC, low byte first (60_exceptions.md R242). -/
theorem State.leave_frame (s : State) : ∃ st lo hi : Byte,
    s.leave.p = Flags.unpack st ∧ s.leave.pc = wordOf lo hi ∧
    s.leave.trace = .read (stackAddr (s.sp + 3)) hi :: .read (stackAddr (s.sp + 2)) lo ::
      .read (stackAddr (s.sp + 1)) st :: s.trace ∧
    (Readable s (stackAddr (s.sp + 1)) → st = s.peek (stackAddr (s.sp + 1))) ∧
    (Readable s (stackAddr (s.sp + 2)) → lo = s.peek (stackAddr (s.sp + 2))) ∧
    (Readable s (stackAddr (s.sp + 3)) → hi = s.peek (stackAddr (s.sp + 3))) := by
  obtain ⟨lo, hi, hword, htrace, hlow, hhigh⟩ := (s.pull.2.setP (Flags.unpack s.pull.1)).pullWord_reads
  simp only [State.setP_sp, State.pull_sp, BitVec.add_assoc, State.setP_peek, State.pull_peek] at htrace hlow hhigh
  refine ⟨s.pull.1, lo, hi, by simp, by simp [State.leave, hword], ?trace, State.pull_fst_of_readable, ?low, ?high⟩
  case trace => simpa [State.leave] using htrace
  case low => simpa [Readable] using hlow
  case high => simpa [Readable] using hhigh

/-! ### NOP -/

/-- NOP makes the reads of its operand and does nothing with the byte (43_brk_rti_nop.md R162, R163). -/
theorem exec_of_nop {i : Instr} (hi : i.mnemonic = .nop) (s : State) :
    exec i s = .next (withOperand i.mode (·.2) (s.advance i.length)) := by
  rw [exec_eq_effect, hi]
  rfl

/-- Whatever the mode, reading an operand only to discard it leaves all but the record alone. -/
theorem withOperand_snd_frame (mode : Mode) (s : State) {t : State} (ht : withOperand mode (·.2) s = t) :
    SameRegisters s t ∧ t.pc = s.pc ∧ t.p = s.p ∧ SameMemory s t ∧ SamePort s t ∧ SameControl s t := by
  subst ht
  unfold withOperand
  split
  case h_1 o ho => exact operandOf_frame ho
  case h_2 => exact ⟨⟨rfl, rfl, rfl, rfl⟩, rfl, rfl, fun _ => rfl, ⟨rfl, rfl⟩, ⟨rfl, rfl, rfl, rfl, rfl⟩⟩

/-- Only a memory mode makes an access for its operand (30_encoding.md R84 to R86, R95). -/
theorem withOperand_snd_of_not_mem {mode : Mode} (h : ∀ m, mode ≠ .mem m) (s : State) :
    withOperand mode (·.2) s = s := by
  cases mode with
  | mem m => exact absurd rfl (h m)
  | imp | stk | acc | imm _ | rel _ | ind _ => rfl

end Sys2Proof.Machine
end

section
/-! The statements of 43_brk_rti_nop.md. -/

namespace Sys2Proof.Proofs

open Sys2Proof Sys2Proof.Machine

/-- Settles O45: BRK is an entry through the IRQ vector that returns past its two bytes, and then D as BRK_D says. -/
theorem breakInstruction : Obligations.BreakInstruction := by
  intro ret s hret
  obtain rfl : ret = s.pc + 2 := BitVec.eq_of_toNat_eq (hret.trans (BitVec.toNat_add s.pc 2).symm)
  obtain ⟨lo, hi, hpushed, hpc, htrace, hlow, hhigh⟩ :=
    s.enter_frame (s.pc + 2) true (vector := irqVector) (next := 0xFFFF) (by decide) (by decide) (by decide)
  refine ⟨lo, hi, clearDOnBrk (s.enter (s.pc + 2) true irqVector), exec_eq_effect .brk s, ?_⟩
  rw [clearDOnBrk_eq]
  refine ⟨?pushed, by simp, ?flags, ?target, ?trace, ?vector, by simp, by simp, by simp, ?port, ?control⟩
  case pushed => exact hpushed.setP _
  case flags => cases h : s.params.brkD <;> simp [h]
  case target => rw [State.setP_pc, hpc, wordOf_toNat]
  case trace => exact htrace
  case vector => exact fun h h' => ⟨hlow h, hhigh h'⟩
  case port => constructor <;> simp
  case control => constructor <;> simp

/-- Settles O46: RTI is the return from an interrupt, which sets PC whatever it was. -/
theorem returnFromInterrupt : Obligations.ReturnFromInterrupt := by
  intro s
  obtain ⟨st, lo, hi, hp, hpc, htrace, hst, hlo, hhi⟩ := (s.advance 1).leave_frame
  refine ⟨st, lo, hi, (s.advance 1).leave, exec_eq_effect .rti s, by simp, hp, ?target, htrace, hst, hlo, hhi, by simp,
    by simp, by simp, fun b => by simp [State.peek], ?port, ?control⟩
  case target => rw [hpc, wordOf_toNat]
  case port => constructor <;> simp
  case control => constructor <;> simp

/-- Settles O47: a NOP is the reads of its operand and nothing else. -/
theorem noOperations : Obligations.NoOperations := by
  intro i s hi
  obtain ⟨hregs, hpc, hp, hmem, hport, hcontrol⟩ := withOperand_snd_frame i.mode (s.advance i.length) rfl
  refine ⟨_, exec_of_nop hi s, hpc, ⟨hregs.a, hregs.x, hregs.y, hregs.sp⟩, hp, hmem,
    ⟨hport.ddr, hport.latch⟩, ?control, ?read, ?none⟩
  case control =>
    exact ⟨hcontrol.lines, hcontrol.schedule, hcontrol.nmiPending, hcontrol.irqInhibitNext, hcontrol.params⟩
  case read =>
    intro m hmode
    rw [hmode]
    exact ⟨_, fetchOperand_trace m (s.advance i.length)⟩
  case none =>
    intro hmode
    rw [withOperand_snd_of_not_mem hmode]
    exact ⟨rfl, rfl, rfl⟩

end Sys2Proof.Proofs
end

section
/-! Writes of the status alone, said once: the flag instructions set P and step over their one byte, and those of I note
the change. -/

namespace Sys2Proof.Machine

open Sys2Proof

/-- Noting a change of I is one write of the I latency bit (60_exceptions.md R236). -/
theorem State.noteIChange_eq_setInhibit (s : State) (old : Bool) :
    s.noteIChange old =
      s.setInhibit (if s.params.iLatency = .exact ∧ s.p.i ≠ old then true else s.irqInhibitNext) :=
  State.ext_fields (by simp [State.noteIChange_irqInhibitNext])

theorem exec_of_writesStatus {i : Instr} {s : State} {p : Flags}
    (heffect : effect i.mnemonic i.mode s = (s.advance 1).setP p) :
    exec i s = .next { s with p := p, pc := s.pc + 1 } := by
  rw [exec_eq_effect, heffect]
  rfl

/-- I has changed just where it held the other value before (44_flag_ops.md R172, R176). -/
theorem exec_of_writesInterruptDisable {i : Instr} {s : State} {v : Bool}
    (heffect : effect i.mnemonic i.mode s = ((s.advance 1).setI v).noteIChange s.p.i) :
    exec i s = .next { s with
      p := { s.p with i := v }
      pc := s.pc + 1
      irqInhibitNext := if s.params.iLatency = .exact ∧ s.p.i = !v then true else s.irqInhibitNext } := by
  have hchanged : v ≠ s.p.i ↔ s.p.i = !v := ne_comm.trans Bool.eq_not.symm
  rw [exec_eq_effect, heffect, State.noteIChange_eq_setInhibit]
  simp only [State.setI_p, State.setI_params, State.setI_irqInhibitNext, State.advance_params,
    State.advance_irqInhibitNext, hchanged]
  rfl

end Sys2Proof.Machine
end

section
/-! The statements of 44_flag_ops.md. -/

namespace Sys2Proof.Proofs

open Sys2Proof Sys2Proof.Machine

/-- Settles O38: the effect of each of the five is one write of the status. -/
theorem flagInstructions : Obligations.FlagInstructions := fun _ =>
  ⟨exec_of_writesStatus rfl, exec_of_writesStatus rfl, exec_of_writesStatus rfl, exec_of_writesStatus rfl,
    exec_of_writesStatus rfl⟩

/-- Settles O39: CLI and SEI write I and note the change, differing in the value only. -/
theorem interruptDisableInstructions : Obligations.InterruptDisableInstructions := fun _ =>
  ⟨exec_of_writesInterruptDisable (v := false) rfl, exec_of_writesInterruptDisable (v := true) rfl⟩

end Sys2Proof.Proofs
end

section
/-! A step by one modulo 256, said once: what INC and DEC do to a byte, and the index steps to their register. -/

namespace Sys2Proof.Machine

open Sys2Proof

/-- `f` adds `d` modulo 256 and writes N and Z of the sum, no other flag (45_inc_dec.md R180 to R185). -/
structure StepsBy (d : Nat) (f : Flags → Byte → Byte × Flags) : Prop where
  result : ∀ p v, (f p v).1.toNat = (v.toNat + d) % 256
  flags : ∀ p v, (f p v).2 = nzOf p (f p v).1

theorem incOp_stepsBy : StepsBy 1 incOp where
  result _ v := BitVec.toNat_add v 1
  flags p v := p.setNZ_eq_nzOf (v + 1)

/-- Subtracting one is adding 255 modulo 256. -/
theorem decOp_stepsBy : StepsBy 255 decOp where
  result _ v := by
    have hsub : (v - 1).toNat = (255 + v.toNat) % 256 := BitVec.toNat_sub v 1
    rw [Nat.add_comm v.toNat]
    exact hsub
  flags p v := p.setNZ_eq_nzOf (v - 1)

/-- INC and DEC in memory are read-modify-writes by a step up and a step down (R180, R183). -/
theorem effect_of_incDec {m : Mnemonic} (hm : m ∈ [Mnemonic.inc, .dec]) (mode : MemMode) (s : State) :
    ∃ f, StepsBy (if m = .inc then 1 else 255) f ∧
      effect m (.mem mode) s = modifyMem mode f (s.advance (Mode.mem mode).length) := by
  fin_cases hm
  · exact ⟨incOp, incOp_stepsBy, rfl⟩
  · exact ⟨decOp, decOp_stepsBy, rfl⟩

/-- A one-byte instruction that steps `reg` writes the stepped register, N, Z and PC. -/
theorem exec_of_stepReg {i : Instr} {s : State} {set : State → Byte → State} {reg : State → Byte} {d : Nat}
    {f : Flags → Byte → Byte × Flags} (hf : StepsBy d f) (hreg : reg (s.advance 1) = reg s)
    (heffect : effect i.mnemonic i.mode s = modifyReg set reg f (s.advance 1)) :
    ∃ r : Byte, r.toNat = ((reg s).toNat + d) % 256 ∧ exec i s = .next ((set (s.advance 1) r).setP (nzOf s.p r)) := by
  refine ⟨(f s.p (reg s)).1, hf.result s.p (reg s), ?_⟩
  rw [exec_eq_effect, heffect, modifyReg, hreg, State.advance_p, hf.flags]

end Sys2Proof.Machine
end

section
/-! The statements of 45_inc_dec.md. -/

namespace Sys2Proof.Proofs

open Sys2Proof Sys2Proof.Machine

/-- Settles O36: every form of INC and DEC is a read-modify-write that steps the byte it reads. -/
theorem incDecMemory : Obligations.IncDecMemory := by
  intro i m s hi hmode
  obtain ⟨f, hf, heffect⟩ := effect_of_incDec hi m s
  rw [← hmode] at heffect
  obtain ⟨v, t, hv, hexec, hp, hframe⟩ := exec_of_modifyMem heffect
  exact ⟨v, (f s.p v).1, t, hv, hexec, hf.result s.p v, hp.trans (hf.flags s.p v), hframe⟩

/-- Settles O37: each of the four steps its own register. -/
theorem incDecIndex : Obligations.IncDecIndex := fun _ =>
  ⟨exec_of_stepReg (set := State.setX) (reg := State.x) incOp_stepsBy rfl rfl,
    exec_of_stepReg (set := State.setY) (reg := State.y) incOp_stepsBy rfl rfl,
    exec_of_stepReg (set := State.setX) (reg := State.x) decOp_stepsBy rfl rfl,
    exec_of_stepReg (set := State.setY) (reg := State.y) decOp_stepsBy rfl rfl⟩

end Sys2Proof.Proofs
end

section
/-! Jumps and subroutine calls, said once: the pointer of an indirect jump stays in its page, and a call and a return
meet in the same two stack slots. -/

namespace Sys2Proof.Machine

open Sys2Proof

/-! ### The pointer of an indirect jump -/

/-- Two reads in a row, wherever they are. -/
theorem State.load_load_reads (s : State) (p q : Word) :
    ReadPair s ((s.load p).2.load q).2 p q (s.load p).1 ((s.load p).2.load q).1 := by
  refine ⟨by simp, State.load_fst_of_readable, fun h => ?_⟩
  have hread : Readable (s.load p).2 q := by simpa [Readable] using h
  simpa using State.load_fst_of_readable hread

/-- The second byte of the pointer is the next one of the page, the first after the last (30_encoding.md R97). -/
theorem eq_nextInPage {w q : Word} (hq : q.toNat = w.toNat / 256 * 256 + (w.toNat % 256 + 1) % 256) :
    q = wordOf (loByte w + 1) (hiByte w) := by
  apply BitVec.eq_of_toNat_eq
  have hlow : (loByte w + 1).toNat = (w.toNat % 256 + 1) % 256 := by
    rw [BitVec.toNat_add, loByte_toNat]
    rfl
  rw [hq, wordOf_toNat, hlow, hiByte_toNat]
  omega

theorem State.loadIndirect_reads {w q : Word} (s : State)
    (hq : q.toNat = w.toNat / 256 * 256 + (w.toNat % 256 + 1) % 256) :
    ∃ lo hi, (s.loadIndirect w).1 = wordOf lo hi ∧ ReadPair s (s.loadIndirect w).2 w q lo hi := by
  obtain rfl := eq_nextInPage hq
  exact ⟨_, _, rfl, s.load_load_reads w _⟩

theorem exec_jmpInd (w : Word) (s : State) :
    exec (.jmpInd w) s =
      .next (((s.advance 3).loadIndirect w).2.setPc ((s.advance 3).loadIndirect w).1) :=
  exec_eq_effect (.jmpInd w) s

/-! ### Calls and returns -/

/-- With PC past the three bytes of a call, the address before it is that of its last byte
(46_jump_subroutine.md R192). -/
theorem exec_jsr (w : Word) {ret : Word} {s : State} (hret : ret.toNat = (s.pc.toNat + 2) % 65536) :
    exec (.jsr w) s =
      .next ((((s.advance 3).pushWord ret).load ret).2.setPc
        (wordOf (loByte w) (((s.advance 3).pushWord ret).load ret).1)) := by
  have hlast : (s.advance 3).pc - 1 = ret := by
    rw [State.advance_pc]
    bv_omega
  have hexec : exec (.jsr w) s = .next (callSubroutine w (s.advance 3)) := exec_eq_effect (.jsr w) s
  rw [hexec, callSubroutine, hlast]

theorem exec_rts (s : State) :
    exec .rts s = .next ((s.advance 1).pullWord.2.setPc ((s.advance 1).pullWord.1 + 1)) :=
  exec_eq_effect .rts s

/-- What leaves memory alone leaves what was pushed where it is. -/
theorem Pushed.of_sameMemory {vs : List Byte} {s t u : State} (h : Pushed vs s t) (hmem : SameMemory t u) :
    Pushed vs s u where
  slots k v hk hram := (hmem _).trans (h.slots k v hk hram)
  others b hb := (hmem b).trans (h.others b hb)
  notRam b hb := (hmem b).trans (h.notRam b hb)

@[simp] theorem State.pushWord_portDdr (s : State) (w : Word) : (s.pushWord w).portDdr = s.portDdr := by
  simp [State.pushWord]

@[simp] theorem State.pushWord_portLatch (s : State) (w : Word) : (s.pushWord w).portLatch = s.portLatch := by
  simp [State.pushWord]

/-- A pull from where two pushes have left S goes back through their slots in the opposite order (20_memory.md R58). -/
theorem stackAddr_pull_of_call {s h : State} (hsp : h.sp = s.sp - 2) :
    stackAddr (h.sp + 1) = stackSlot s 1 ∧ stackAddr (h.sp + 2) = stackSlot s 0 := by
  have hfirst : h.sp + 1 = s.sp - 1 := by bv_omega
  have hsecond : h.sp + 2 = s.sp - 0 := by bv_omega
  exact ⟨congrArg stackAddr hfirst, congrArg stackAddr hsecond⟩

end Sys2Proof.Machine
end

section
/-! The statements of 46_jump_subroutine.md. -/

namespace Sys2Proof.Proofs

open Sys2Proof Sys2Proof.Machine

/-- Settles O41: PC is written past the instruction and then with the operand. -/
theorem jumpAbsolute : Obligations.JumpAbsolute := fun w => exec_eq_effect (.jmpAbs w)

/-- Settles O42: the target is a pair of reads that stays in the pointer's page. -/
theorem jumpIndirect : Obligations.JumpIndirect := by
  intro w q s hq
  obtain ⟨lo, hi, hword, htrace, hlow, hhigh⟩ := (s.advance 3).loadIndirect_reads hq
  refine ⟨lo, hi, _, exec_jmpInd w s, ?target, htrace, fun h h' => ⟨hlow h, hhigh h'⟩, ?registers, by simp,
    fun b => by simp, ?port, ?control⟩
  case target => rw [State.setPc_pc, hword, wordOf_toNat]
  case registers => constructor <;> simp
  case port => constructor <;> simp
  case control => constructor <;> simp

/-- Settles O43: the last byte is read from the memory that the two pushes have left. -/
theorem jumpToSubroutine : Obligations.JumpToSubroutine := by
  intro w ret s hret
  refine ⟨(((s.advance 3).pushWord ret).load ret).1, _, exec_jsr w hret, ?pushed, by simp, ?target,
    by simp [stackSlot], ?late, by simp, by simp, by simp, by simp, ?port, ?control⟩
  case pushed =>
    obtain ⟨hslots, hothers, hnotRam⟩ := pushed_pushWord (s.advance 3) ret
    exact Pushed.of_sameMemory ⟨hslots, hothers, hnotRam⟩ fun b => by simp
  case target => rw [State.setPc_pc, wordOf_toNat, loByte_toNat]
  case late =>
    intro hread
    have hpushed : Readable ((s.advance 3).pushWord ret) ret := by simpa [Readable] using hread
    simpa using State.load_fst_of_readable hpushed
  case port => constructor <;> simp
  case control => constructor <;> simp

/-- Settles O44: PC is the word pulled, and one more. -/
theorem returnFromSubroutine : Obligations.ReturnFromSubroutine := by
  intro s
  obtain ⟨lo, hi, hword, htrace, hlow, hhigh⟩ := (s.advance 1).pullWord_reads
  refine ⟨lo, hi, _, exec_rts s, by simp, ?target, htrace, hlow, hhigh, by simp, by simp, by simp, by simp,
    fun b => by simp, ?port, ?control⟩
  case target =>
    rw [State.setPc_pc, hword, BitVec.toNat_add, wordOf_toNat]
    rfl
  case port => constructor <;> simp
  case control => constructor <;> simp

/-- Settles O52: the return finds in the two slots the bytes that the call put there. -/
theorem returnUndoesCall : Obligations.ReturnUndoesCall := by
  intro s h w hram
  obtain ⟨_, c, hexec, hpushed, hsp, _⟩ := jumpToSubroutine w (s.pc + 2) s (BitVec.toNat_add s.pc 2)
  refine ⟨c, hexec, fun hback hparams hkept => ?_⟩
  obtain ⟨lo, hi, t, hrts, htsp, hpc, _, hlo, hhi, _, _, _, hp, _⟩ := returnFromSubroutine h
  obtain ⟨hslot1, hslot0⟩ := stackAddr_pull_of_call (hback.trans hsp)
  have hreadable (k : Nat) (hk : k < 2) : Readable h (stackSlot s k) := .inl (hparams ▸ hram k hk)
  rw [hslot1, hkept 1 (by omega), hpushed.slots 1 _ rfl (hram 1 (by omega))] at hlo
  rw [hslot0, hkept 0 (by omega), hpushed.slots 0 _ rfl (hram 0 (by omega))] at hhi
  obtain rfl := hlo (hreadable 1 (by omega))
  obtain rfl := hhi (hreadable 0 (by omega))
  refine ⟨t, hrts, ?resumed, ?stack, hp⟩
  case resumed =>
    rw [← wordOf_toNat, wordOf_lo_hi] at hpc
    bv_omega
  case stack =>
    rw [htsp, hback, hsp]
    bv_omega

end Sys2Proof.Proofs
end

section
/-! Loads and stores, said once: a load writes its operand to the register of its mnemonic, and a store presents the
register of its mnemonic to its effective address. -/

namespace Sys2Proof.Machine

open Sys2Proof

/-! ### Loads -/

/-- The byte `v` in the register that the load `m` writes (47_load_store.md R200 to R202). -/
def State.setLoaded (m : Mnemonic) (s : State) (v : Byte) : State :=
  { s with
    a := if m = .lda then v else s.a
    x := if m = .ldx then v else s.x
    y := if m = .ldy then v else s.y }

theorem effect_of_load {m : Mnemonic} (hm : m ∈ [Mnemonic.lda, .ldx, .ldy]) (mode : Mode) (s : State) :
    effect m mode s = withOperand mode (loadInto (State.setLoaded m)) (s.advance mode.length) := by
  fin_cases hm <;> rfl

theorem exec_of_load {i : Instr} {s : State} {o : Byte × State} (hi : i.mnemonic ∈ [Mnemonic.lda, .ldx, .ldy])
    (ho : operandOf i.mode (s.advance i.length) = some o) :
    exec i s = .next (loadInto (State.setLoaded i.mnemonic) o) := by
  rw [exec_eq_effect, effect_of_load hi]
  exact congrArg Host.Outcome.next (withOperand_of_operandOf ho _)

/-! ### Stores -/

/-- The register that the store `m` writes out (R203 to R205). -/
def storedOf (m : Mnemonic) (s : State) : Byte := if m = .sta then s.a else if m = .stx then s.x else s.y

theorem effect_of_store {m : Mnemonic} (hm : m ∈ [Mnemonic.sta, .stx, .sty]) (mode : MemMode) (s : State) :
    effect m (.mem mode) s = storeFrom mode (storedOf m) (s.advance (Mode.mem mode).length) := by
  fin_cases hm <;> rfl

theorem exec_of_store {i : Instr} {m : MemMode} (hi : i.mnemonic ∈ [Mnemonic.sta, .stx, .sty])
    (hmode : i.mode = .mem m) (s : State) :
    exec i s = .next (storeFrom m (storedOf i.mnemonic) (s.advance i.length)) := by
  rw [exec_eq_effect, Instr.length, hmode, effect_of_store hi]

/-- The reads of a pointer keep memory and the port, so a store does what its one write does (30_encoding.md R95). -/
theorem stored_storeFrom (m : MemMode) (reg : State → Byte) (s : State) :
    Stored (ea m s).1 (reg s) s (storeFrom m reg s) :=
  (stored_store (ea m s).2 (ea m s).1 (reg s)).of_same (ea_peek m s) ⟨ea_portDdr m s, ea_portLatch m s⟩
    (ea_params m s)

theorem storeFrom_trace (m : MemMode) (reg : State → Byte) (s : State) :
    (storeFrom m reg s).trace = .write (ea m s).1 (reg s) :: (ea m s).2.trace := State.store_trace ..

end Sys2Proof.Machine
end

section
/-! The statements of 47_load_store.md. -/

namespace Sys2Proof.Proofs

open Sys2Proof Sys2Proof.Machine

/-- Settles O20: reading the operand changes the record alone, and the load then writes its register, N and Z. -/
theorem loadsCopyOperand : Obligations.LoadsCopyOperand := by
  intro i s hi
  obtain ⟨o, ho⟩ := operandOf_isSome (i := i) (List.subset_def.mp (by decide) hi) (s.advance i.length)
  obtain ⟨hregs, hpc, hp, hmem, hport, hcontrol⟩ := operandOf_frame ho
  refine ⟨o, loadInto (State.setLoaded i.mnemonic) o, ho, exec_of_load hi ho, ?a, ?x, ?y, hregs.sp, ?flags, hpc,
    ⟨rfl, rfl, rfl⟩, hmem, ⟨hport.ddr, hport.latch⟩, ?control⟩
  case a => exact congrArg (ite _ o.1) hregs.a
  case x => exact congrArg (ite _ o.1) hregs.x
  case y => exact congrArg (ite _ o.1) hregs.y
  case flags => exact (o.2.p.setNZ_eq_nzOf o.1).trans (congrArg (nzOf · o.1) hp)
  case control =>
    exact ⟨hcontrol.lines, hcontrol.schedule, hcontrol.nmiPending, hcontrol.irqInhibitNext, hcontrol.params⟩

/-- Settles O21: after the reads of its address a store is one write, and a write leaves the processor alone. -/
theorem storesWriteEffectiveAddress : Obligations.StoresWriteEffectiveAddress := by
  intro i m s hi hmode
  refine ⟨storedOf i.mnemonic s, storeFrom m (storedOf i.mnemonic) (s.advance i.length), rfl,
    exec_of_store hi hmode s, ?stored, storeFrom_trace m _ _, ?registers, by simp [storeFrom], by simp [storeFrom],
    ?control⟩
  case stored =>
    exact Stored.of_same (u := s.advance i.length) (fun _ => rfl) ⟨rfl, rfl⟩ rfl
      (stored_storeFrom m (storedOf i.mnemonic) _)
  case registers => constructor <;> simp [storeFrom]
  case control => constructor <;> simp [storeFrom]

end Sys2Proof.Proofs
end

section
/-! Pushes and pulls of one byte, and register transfers, said once: a push writes what its mnemonic pushes, a pull
reads the byte above S and loads what its mnemonic loads. -/

namespace Sys2Proof.Machine

open Sys2Proof

theorem mode_of_stack {i : Instr} (h : i.mnemonic ∈ [Mnemonic.pha, .php, .pla, .plp]) : i.mode = .stk := by
  cases i <;> simp_all [Instr.mnemonic, Instr.mode]

/-! ### Pushes -/

/-- What the push `m` pushes (48_stack.md R210, R211). -/
def pushedOf (m : Mnemonic) (s : State) : Byte := if m = .pha then s.a else s.p.pack true

theorem effect_of_push {m : Mnemonic} (hm : m ∈ [Mnemonic.pha, .php]) (s : State) :
    effect m .stk s = (s.advance 1).push (pushedOf m s) := by
  fin_cases hm <;> rfl

theorem exec_of_push {i : Instr} (hi : i.mnemonic ∈ [Mnemonic.pha, .php]) (s : State) :
    exec i s = .next ((s.advance 1).push (pushedOf i.mnemonic s)) := by
  rw [exec_eq_effect, mode_of_stack (List.subset_def.mp (by decide) hi), effect_of_push hi]

theorem Flags.pack_toNat (p : Flags) (b : Bool) : (p.pack b).toNat =
    128 * p.n.toNat + 64 * p.v.toNat + 32 + 16 * b.toNat + 8 * p.d.toNat + 4 * p.i.toNat + 2 * p.z.toNat +
      p.c.toNat := by
  have hn := p.n.toNat_le
  have hv := p.v.toNat_le
  have hb := b.toNat_le
  have hd := p.d.toNat_le
  have hi := p.i.toNat_le
  have hz := p.z.toNat_le
  have hc := p.c.toNat_le
  rw [Flags.pack, BitVec.toNat_ofNat]
  omega

theorem pushed_push (s : State) (v : Byte) : Pushed [v] s (s.push v) := (pushed_nil s).push (by simp) (by simp) rfl v

/-- What was pushed onto a stack that is that of `s` was pushed from `s`. -/
theorem Pushed.of_sameStack {vs : List Byte} {s u t : State} (h : Pushed vs u t) (hmem : u.mem = s.mem)
    (hsp : u.sp = s.sp) (hparams : u.params = s.params) : Pushed vs s t := by
  obtain ⟨hslots, hothers, hnotRam⟩ := h
  simp only [stackSlot, IsRam, State.peek, hmem, hsp, hparams] at hslots hothers hnotRam
  exact ⟨hslots, hothers, hnotRam⟩

/-! ### Pulls -/

/-- What the pull `m` does with the byte `v` it read, from the state `s` after the read (R212, R213); the I latency
bit is noted as 60_exceptions.md R236 says. -/
def State.setPulled (m : Mnemonic) (s : State) (v : Byte) : State :=
  { s with
    a := if m = .pla then v else s.a
    p := if m = .pla then nzOf s.p v else Flags.unpack v
    irqInhibitNext :=
      if m = .plp ∧ s.params.iLatency = .exact ∧ v.getLsbD 2 ≠ s.p.i then true else s.irqInhibitNext }

theorem effect_of_pull {m : Mnemonic} (hm : m ∈ [Mnemonic.pla, .plp]) (s : State) :
    effect m .stk s = State.setPulled m (s.advance 1).pull.2 (s.advance 1).pull.1 := by
  fin_cases hm
  · change loadInto State.setA (s.advance 1).pull = _
    exact State.ext_fields (by simp [State.setPulled, loadInto, Flags.setNZ_eq_nzOf])
  · change pullStatus (s.advance 1) = _
    exact State.ext_fields (by simp [State.setPulled, pullStatus, State.noteIChange_irqInhibitNext, Flags.unpack])

theorem exec_of_pull {i : Instr} (hi : i.mnemonic ∈ [Mnemonic.pla, .plp]) (s : State) :
    exec i s = .next (State.setPulled i.mnemonic (s.advance 1).pull.2 (s.advance 1).pull.1) := by
  rw [exec_eq_effect, mode_of_stack (List.subset_def.mp (by decide) hi), effect_of_pull hi]

/-! ### Transfers -/

/-- A one-byte instruction that copies `reg` writes the copy, N, Z and PC (49_transfer.md R220 to R223, R225). -/
theorem exec_of_transfer {i : Instr} {s : State} {set : State → Byte → State} {reg : State → Byte}
    (hreg : reg (s.advance 1) = reg s) (heffect : effect i.mnemonic i.mode s = transfer set reg (s.advance 1)) :
    exec i s = .next ((set (s.advance 1) (reg s)).setP (nzOf s.p (reg s))) := by
  rw [exec_eq_effect, heffect, transfer, hreg, State.advance_p, Flags.setNZ_eq_nzOf]

end Sys2Proof.Machine
end

section
/-! The statements of 48_stack.md and 49_transfer.md. -/

namespace Sys2Proof.Proofs

open Sys2Proof Sys2Proof.Machine

/-- Settles O48: both are one push past the instruction, differing in the byte only. -/
theorem pushInstructions : Obligations.PushInstructions := by
  intro i s hi
  refine ⟨pushedOf i.mnemonic s, _, exec_of_push hi s, ?byte, ?pushed, ?record, rfl, by simp, by simp, by simp,
    by simp, by simp, ?port, ?control⟩
  case byte =>
    split
    case isTrue h => exact if_pos h
    case isFalse h =>
      rw [pushedOf, if_neg h, Flags.pack_toNat]
      rfl
  case pushed => exact (pushed_push (s.advance 1) _).of_sameStack rfl rfl rfl
  case record => simp [stackSlot]
  case port => constructor <;> simp
  case control => constructor <;> simp

/-- Settles O49: both are one pull past the instruction, differing in what they load. -/
theorem pullInstructions : Obligations.PullInstructions := by
  intro i s hi
  refine ⟨(s.advance 1).pull.1, _, exec_of_pull hi s, ?sp, ?record,
    State.pull_fst_of_readable (s := s.advance 1), ?loaded, ?pc, ?x, ?y, ?memory, ?port, ?lines, ?schedule, ?pending,
    ?params⟩
  case loaded =>
    split
    case isTrue h => simp [State.setPulled, h]
    case isFalse h =>
      have hplp : i.mnemonic = .plp := by simpa [h] using hi
      simp [State.setPulled, hplp, Flags.unpack]
  case memory => exact (s.advance 1).pull_peek
  case port => exact ⟨(s.advance 1).pull_portDdr, (s.advance 1).pull_portLatch⟩
  all_goals simp [State.setPulled]

/-- Settles O22: five are transfers of their own two registers, and TXS writes S and PC alone. -/
theorem transfersCopyRegister : Obligations.TransfersCopyRegister := fun s =>
  ⟨⟨_, exec_of_transfer (set := State.setX) (reg := State.a) rfl rfl, rfl⟩,
    ⟨_, exec_of_transfer (set := State.setY) (reg := State.a) rfl rfl, rfl⟩,
    ⟨_, exec_of_transfer (set := State.setX) (reg := State.sp) rfl rfl, rfl⟩,
    ⟨_, exec_of_transfer (set := State.setA) (reg := State.x) rfl rfl, rfl⟩,
    ⟨_, exec_of_transfer (set := State.setA) (reg := State.y) rfl rfl, rfl⟩,
    ⟨_, exec_eq_effect .txs s, rfl⟩⟩

end Sys2Proof.Proofs
end

section
/-! The instruction boundary and the sequences it makes, said once: what it chooses, and what an entry or a reset
leaves of the state that the sample found. -/

namespace Sys2Proof.Machine

open Sys2Proof

/-! ### The choice -/

theorem State.boundary_fst (s : State) : s.boundary.1 = s.sampleLines.event s.lines.res := by
  unfold State.boundary
  dsimp only
  split <;> exact Eq.symm ‹_›

/-- Each event is chosen where its own condition holds and that of none before it (60_exceptions.md R240). -/
theorem State.event_eq_iff (s : State) (wasRes : Bool) :
    (s.event wasRes = .held ↔ s.lines.res = true) ∧
    (s.event wasRes = .reset ↔ s.lines.res = false ∧ wasRes = true) ∧
    (s.event wasRes = .nmi ↔ s.lines.res = false ∧ wasRes = false ∧ s.nmiPending = true) ∧
    (s.event wasRes = .irq ↔ s.lines.res = false ∧ wasRes = false ∧ s.nmiPending = false ∧ s.lines.irq = true ∧
      (s.p.i ^^ s.irqInhibitNext) = false) := by
  unfold State.event
  split
  case isTrue hres => simp [hres]
  case isFalse hres =>
    split
    case isTrue hwas => simp [hres, hwas]
    case isFalse hwas =>
      split
      case isTrue hnmi => simp [hres, hwas, hnmi]
      case isFalse hnmi =>
        split
        case isTrue hirq => simp_all
        case isFalse hirq => simp_all

theorem State.nmiPending_of_irq {s : State} (h : s.boundary.1 = .irq) : s.sampleLines.nmiPending = false := by
  rw [State.boundary_fst] at h
  obtain ⟨_, _, _, hirq⟩ := s.sampleLines.event_eq_iff s.lines.res
  obtain ⟨_, _, hnmi, _⟩ := hirq.mp h
  exact hnmi

/-! ### The sequences -/

/-- `s` with its lines just sampled, no NMI pending and the I latency bit clear: what an interrupt is taken from. -/
def State.sampledQuiet (s : State) : State :=
  { s with
    lines := s.sampleLines.lines
    schedule := s.sampleLines.schedule
    nmiPending := false
    irqInhibitNext := false }

/-- A reset and an interrupt are the whole step, from the sampled state. -/
theorem step_of_sequence (s : State) :
    (s.boundary.1 = .reset → step s = .next (s.sampleLines.setInhibit false).resetSequence) ∧
    (s.boundary.1 = .nmi →
      step s = .next (((s.sampleLines.setInhibit false).setNmiPending false).enter s.pc false nmiVector)) ∧
    (s.boundary.1 = .irq → step s = .next ((s.sampleLines.setInhibit false).enter s.pc false irqVector)) := by
  rcases s.boundary_cases with h | h | h | h | h <;> simp [step, h]

theorem step_of_nmi {s : State} (h : s.boundary.1 = .nmi) :
    step s = .next (s.sampledQuiet.enter s.pc false nmiVector) := by
  have hquiet : (s.sampleLines.setInhibit false).setNmiPending false = s.sampledQuiet :=
    State.ext_fields (by simp [State.sampledQuiet])
  obtain ⟨_, hnmi, _⟩ := step_of_sequence s
  rw [hnmi h, hquiet]

theorem step_of_irq {s : State} (h : s.boundary.1 = .irq) :
    step s = .next (s.sampledQuiet.enter s.pc false irqVector) := by
  have hquiet : s.sampleLines.setInhibit false = s.sampledQuiet :=
    State.ext_fields (by simp [State.sampledQuiet, State.nmiPending_of_irq h])
  obtain ⟨_, _, hirq⟩ := step_of_sequence s
  rw [hirq h, hquiet]

/-- An interrupt through any vector above the stack's page (60_exceptions.md R232, R237). -/
theorem exists_step_of_interrupt {s : State} {vector next : Word} (hnext : vector + 1 = next)
    (hvector : 512 ≤ vector.toNat) (hnextPage : 512 ≤ next.toNat)
    (hstep : step s = .next (s.sampledQuiet.enter s.pc false vector)) :
    ∃ t, step s = .next t ∧
      Pushed [hiByte s.pc, loByte s.pc, s.p.pack false] s t ∧ t.sp = s.sp - 3 ∧
      t.p = { s.p with i := true } ∧ t.a = s.a ∧ t.x = s.x ∧ t.y = s.y ∧ SamePort s t ∧
      t.nmiPending = false ∧ t.irqInhibitNext = false ∧ t.params = s.params ∧
      (∃ lo hi, t.pc.toNat = lo.toNat + 256 * hi.toNat ∧
        t.trace = [.read next hi, .read vector lo, .write (stackSlot s 2) (s.p.pack false),
          .write (stackSlot s 1) (loByte s.pc), .write (stackSlot s 0) (hiByte s.pc)] ++ s.trace ∧
        (Readable s vector → Readable s next → lo = s.peek vector ∧ hi = s.peek next)) := by
  obtain ⟨lo, hi, hpushed, hpc, htrace, hlow, hhigh⟩ :=
    s.sampledQuiet.enter_frame s.pc false hnext hvector hnextPage
  refine ⟨_, hstep, hpushed.of_sameStack rfl rfl rfl, State.enter_sp .., State.enter_p .., State.enter_a ..,
    State.enter_x .., State.enter_y .., ⟨State.enter_portDdr .., State.enter_portLatch ..⟩, State.enter_nmiPending ..,
    State.enter_irqInhibitNext .., State.enter_params .., lo, hi, ?target, htrace, fun h h' => ⟨hlow h, hhigh h'⟩⟩
  case target => rw [hpc, wordOf_toNat]

/-- All that the reset sequence does before it reads its vector (70_reset_and_hazards.md R260). -/
def State.beforeResetVector (s : State) : State :=
  { s with
    sp := s.sp - 3
    p := { s.p with i := true }
    nmiPending := false
    irqInhibitNext := false
    portDdr := if s.params.port = .device then 0 else s.portDdr }

theorem State.resetSequence_eq (s : State) : s.resetSequence =
    (s.beforeResetVector.loadWord resetVector).2.setPc (s.beforeResetVector.loadWord resetVector).1 := by
  have hbefore : s.beforeResetVector =
      match s.params.port with
      | .device => ((((s.setSp (s.sp - 3)).setI true).setNmiPending false).setInhibit false).setDdr 0
      | .plainRam => (((s.setSp (s.sp - 3)).setI true).setNmiPending false).setInhibit false := by
    cases h : s.params.port <;> exact State.ext_fields (by simp [State.beforeResetVector, h])
  rw [hbefore]
  rfl

@[simp] theorem State.resetSequence_nmiPending (s : State) : s.resetSequence.nmiPending = false := by
  simp [State.resetSequence_eq, State.beforeResetVector]

@[simp] theorem State.resetSequence_irqInhibitNext (s : State) : s.resetSequence.irqInhibitNext = false := by
  simp [State.resetSequence_eq, State.beforeResetVector]

@[simp] theorem State.resetSequence_portDdr (s : State) :
    s.resetSequence.portDdr = if s.params.port = .device then 0 else s.portDdr := by
  simp [State.resetSequence_eq, State.beforeResetVector]

theorem State.resetSequence_reads (s : State) : ∃ lo hi, s.resetSequence.pc = wordOf lo hi ∧
    ReadPair s s.resetSequence 0xFFFC 0xFFFD lo hi := by
  obtain ⟨lo, hi, hword, htrace, hlow, hhigh⟩ := s.beforeResetVector.loadWord_reads resetVector
  rw [State.resetSequence_eq]
  exact ⟨lo, hi, hword, htrace, hlow, hhigh⟩

/-! ### The I that the next check decides with -/

/-- CLI, SEI and PLP end with the note that I may have changed (60_exceptions.md R236). -/
theorem effect_of_notesIChange {m : Mnemonic} (hm : m ∈ [Mnemonic.cli, .sei, .plp]) (mode : Mode) (s : State) :
    ∃ u : State, effect m mode s = u.noteIChange s.p.i ∧ u.params = s.params ∧
      u.irqInhibitNext = s.irqInhibitNext := by
  fin_cases hm
  · exact ⟨_, rfl, rfl, rfl⟩
  · exact ⟨_, rfl, rfl, rfl⟩
  · exact ⟨_, rfl, State.pull_params _, State.pull_irqInhibitNext _⟩

/-- With I_LATENCY = exact the bit turns the new I back into the old one. -/
theorem State.noteIChange_effectiveI {s : State} (h : s.irqInhibitNext = false) (old : Bool) :
    ((s.noteIChange old).p.i ^^ (s.noteIChange old).irqInhibitNext) =
      if s.params.iLatency = .exact then old else s.p.i := by
  rw [State.noteIChange_p, State.noteIChange_irqInhibitNext, h]
  cases s.params.iLatency with
  | exact => cases s.p.i <;> cases old <;> rfl
  | none => simp

/-! ### Entry and return -/

theorem State.enter_pushed (s : State) (ret : Word) (b : Bool) (vector : Word) :
    Pushed [hiByte ret, loByte ret, s.p.pack b] s (s.enter ret b vector) :=
  ((pushed_pushWord s ret).push (by simp) (by simp) (by simp) _).of_sameMemory fun w => by simp [State.enter]

/-- The pulls from where an entry has left S go back through its three slots (20_memory.md R58). -/
theorem stackAddr_pull_of_entry {s h : State} (hsp : h.sp = s.sp - 3) :
    stackAddr (h.sp + 1) = stackSlot s 2 ∧ stackAddr (h.sp + 2) = stackSlot s 1 ∧
      stackAddr (h.sp + 3) = stackSlot s 0 := by
  have hstatus : h.sp + 1 = s.sp - 2 := by bv_omega
  have hlow : h.sp + 2 = s.sp - 1 := by bv_omega
  have hhigh : h.sp + 3 = s.sp - 0 := by bv_omega
  exact ⟨congrArg stackAddr hstatus, congrArg stackAddr hlow, congrArg stackAddr hhigh⟩

end Sys2Proof.Machine
end

section
/-! The statements of 60_exceptions.md and 70_reset_and_hazards.md. -/

namespace Sys2Proof.Proofs

open Sys2Proof Sys2Proof.Machine

/-- Settles O10: the choice is that of the sampled state. -/
theorem boundaryChoice : Obligations.BoundaryChoice := by
  intro s
  refine ⟨s.sampleLines, rfl, s.sampleLines_pc, ?_⟩
  rw [State.boundary_fst]
  simpa using s.sampleLines.event_eq_iff s.lines.res

/-- Settles O11: the latch is the disjunction of the old bit, the pulse and the rise of the level. -/
theorem nmiEdgeLatched : Obligations.NmiEdgeLatched := by
  intro s l later
  constructor
  · intro hschedule
    simp [State.sampleLines, hschedule, or_assoc, and_comm]
  · intro hschedule
    simp [State.sampleLines, hschedule]

/-- Settles O12: the entry through the NMI vector. -/
theorem nmiEntry : Obligations.NmiEntry := fun _ h =>
  exists_step_of_interrupt (by decide) (by decide) (by decide) (step_of_nmi h)

/-- Settles O13: the entry through the IRQ vector, which no pending NMI precedes. -/
theorem irqEntry : Obligations.IrqEntry := fun _ h =>
  exists_step_of_interrupt (by decide) (by decide) (by decide) (step_of_irq h)

/-- Settles O17: the note hides a change of I from the next check, and RTI makes none. -/
theorem latencyOfI : Obligations.LatencyOfI := by
  intro i s hclear hi
  refine ⟨_, exec_eq_effect i s, ?_⟩
  by_cases hrti : i.mnemonic = .rti
  · simp [hrti, effect, hclear]
  · obtain ⟨u, heffect, hparams, hbit⟩ :=
      effect_of_notesIChange (by simpa [hrti] using hi) i.mode s
    rw [heffect, State.noteIChange_effectiveI (hbit.trans hclear), hparams, State.noteIChange_p]
    simp [hrti]

/-- Settles O51: RTI finds in the three slots the bytes that the entry put there. -/
theorem returnUndoesInterruptEntry : Obligations.ReturnUndoesInterruptEntry := by
  intro s h ret b vector hram hback hparams hkept
  have hpushed := s.enter_pushed ret b vector
  have hsp : h.sp = s.sp - 3 := hback.trans (s.enter_sp ret b vector)
  obtain ⟨st, lo, hi, t, hrti, htsp, hp, hpc, _, hst, hlo, hhi, ha, hx, hy, _⟩ := returnFromInterrupt h
  obtain ⟨hslot2, hslot1, hslot0⟩ := stackAddr_pull_of_entry hsp
  have hreadable (k : Nat) (hk : k < 3) : Readable h (stackSlot s k) := .inl (hparams ▸ hram k hk)
  rw [hslot2, hkept 2 (by omega), hpushed.slots 2 _ rfl (hram 2 (by omega))] at hst
  rw [hslot1, hkept 1 (by omega), hpushed.slots 1 _ rfl (hram 1 (by omega))] at hlo
  rw [hslot0, hkept 0 (by omega), hpushed.slots 0 _ rfl (hram 0 (by omega))] at hhi
  obtain rfl := hst (hreadable 2 (by omega))
  obtain rfl := hlo (hreadable 1 (by omega))
  obtain rfl := hhi (hreadable 0 (by omega))
  refine ⟨t, hrti, ?resumed, hp.trans (s.p.unpack_pack b), ?stack, ha, hx, hy⟩
  case resumed =>
    rw [← wordOf_toNat, wordOf_lo_hi] at hpc
    exact BitVec.eq_of_toNat_eq hpc
  case stack =>
    rw [htsp, hsp]
    bv_omega

/-- Settles O8: the effect of an instruction is a state, whatever the instruction and the state. -/
theorem everyInstructionCompletes : Obligations.EveryInstructionCompletes := fun i s => ⟨_, exec_eq_effect i s⟩

/-- Settles O14: the reset sequence from the sampled state, which differs from `s` in the inputs alone. -/
theorem resetStep : Obligations.ResetStep := by
  intro s hreset
  obtain ⟨lo, hi, hpc, htrace, hlow, hhigh⟩ := (s.sampleLines.setInhibit false).resetSequence_reads
  simp only [Readable, State.peek, State.setInhibit_params, State.setInhibit_mem, State.setInhibit_trace,
    State.sampleLines_params, State.sampleLines_mem, State.sampleLines_trace] at htrace hlow hhigh
  obtain ⟨hstep, _⟩ := step_of_sequence s
  refine ⟨_, hstep hreset, by simp, by simp, by simp, by simp, by simp, fun b => by simp [State.peek], by simp,
    fun h => by simp [h], fun h => by simp [h], by simp, by simp, by simp, ⟨lo, hi, ?target, htrace⟩, ?vector⟩
  case target => rw [hpc, wordOf_toNat]
  case vector =>
    intro hread hread'
    rw [hpc, wordOf_toNat, hlow hread, hhigh hread']
    rfl

end Sys2Proof.Proofs
end
